-- ==== Sys2Proof/Word.lean ====
section
/-! DEFINITION. The words the HC416's manual works with: bytes, texts, station numbers, tickets, journal sequence
numbers, reason sets, and its units of time. -/

namespace Sys2Proof

/-- A byte of a message, a frame or the journal array. -/
abbrev Byte := BitVec 8

/-- A text: character codes, each from the printable set 32 to 127 when it is well formed (section 12.5). -/
abbrev Text := List Byte

/-- A station number, 0 to 15, set by four straps (R180) and sent in four arbitration slots (R28). -/
abbrev StationNo := BitVec 4

/-- A journal sequence number; 0 stands for none (R167, R170). -/
abbrev Seq := BitVec 32

/-- A call ticket, 0 to 65,535, which wraps (R61). -/
abbrev Ticket := BitVec 16

/-- A set of the twelve call reasons: bit n is reason n of section 12.3. -/
abbrev Reasons := BitVec 12

/-- A timer: stopped, or running with the microseconds elapsed since it started. -/
abbrev Timer := Option Nat

/-- Milliseconds in the model's unit of time, the microsecond. -/
abbrev ms (n : Nat) : Nat := n * 1000

/-- Seconds in the model's unit of time. -/
abbrev sec (n : Nat) : Nat := n * 1000000

end Sys2Proof
end

