-- ==== Sys2Proof/Config.lean ====
section
/-! DEFINITION. What the manual leaves open and the machine goes on: free values. Each is an opaque constant with no body, so
nothing can be proved about which value it has. Each is named in a row of notes/assumptions. -/

namespace Sys2Proof.Config

/-- Fresh free bytes: the bytes that a page program or a block erase leaves when a reset cuts it or its verify fails (R166
says only that they may be partly programmed, or partly old). Applied to the counter `State.fresh` and an address.
Log entries 10 and 11. -/
opaque freeByte : Nat → Nat → Byte

/-- The glyph table of the part (section 9.2: "fixed in the part", and not given). Applied to a character code and a glyph row
0 to 23; bit 0 is the leftmost dot. The space and the solid block are given, and are not read from here. Log entry 18. -/
opaque glyphRow : Byte → Nat → BitVec 12

/-- Which one status a character has whose parity bit and stop bit are both wrong (R180 gives each character one status and
does not say which of the two): PARITY when true, FRAMING when false. Log entry 12. -/
opaque parityBeforeFraming : Bool

end Sys2Proof.Config
end

