-- ==== Sys2Proof/Syntax.lean ====
section
/-! DEFINITION. The commands of the block: one constructor of `Instr` for each row of spec/opcode_table.json, and the operand
types they carry. A row that is a host command carries the TAG of its message (section 12.1) and the fields of its payload; a
row that is an event carries what the outside world decides about it. -/

namespace Sys2Proof

/-- The two levels of a sense input, in the order the table of section 7.1 lists them: `first` is SHUT, PRESENT, CLOSED,
PLENTY, HOME, HOME and LOW, `second` is OPEN, ABSENT, OPEN, LOW, AWAY, TURNED and HIGH. -/
inductive Level where
  | first
  | second
  deriving DecidableEq, Repr

/-- The eight sense inputs (section 7.1). -/
inductive SenseInput where
  | drawer
  | paper
  | cover
  | nearEnd
  | cutterHome
  | key
  | spare1
  | spare2
  deriving DecidableEq, Repr

/-- One level for each of the eight sense inputs. -/
structure SenseLevels where
  drawer : Level
  paper : Level
  cover : Level
  nearEnd : Level
  cutterHome : Level
  key : Level
  spare1 : Level
  spare2 : Level
  deriving DecidableEq, Repr

/-- The level of the BRIDGE_FAULT input (R69). -/
inductive BridgeLevel where
  | normal
  | fault
  deriving DecidableEq, Repr

/-- The six strap pins (R180): the station number, and the first and second rate strap, high when true. -/
structure Straps where
  station : StationNo
  rateFirst : Bool
  rateSecond : Bool
  deriving DecidableEq, Repr

/-- What stands at the pins when a hardware reset ends: the straps (R180), the raw levels of the sense inputs (R121) and the
BRIDGE_FAULT input (R69). -/
structure Pins where
  straps : Straps
  levels : SenseLevels
  bridge : BridgeLevel
  deriving DecidableEq, Repr

/-- A character on the lane link: its data bits, its parity bit and its stop bit as read (R180). -/
structure LinkChar where
  data : Byte
  parity : Bool
  stop : Bool
  deriving DecidableEq, Repr

/-- The two card tracks. -/
inductive Track where
  | a
  | b
  deriving DecidableEq, Repr

/-- The two local consumers of supply (R57), in the order of their payload byte (section 12.2). -/
inductive Consumer where
  | printer
  | drawer
  deriving DecidableEq, Repr

/-- The cause of a CALL CLEAR (R29). -/
inductive ClearCause where
  | withdrawn
  | attendant
  deriving DecidableEq, Repr

/-- The fields of a ROLL frame (R29). A ticket of `none` is NONE. -/
structure RollFields where
  budget : Nat
  printer : Nat
  drawer : Nat
  join : Bool
  callOpen : Bool
  ticket : Option Ticket
  reasons : Reasons
  deriving DecidableEq, Repr

/-- The payload of a cluster frame, by class (R29). -/
inductive FrameBody where
  | expire (target : StationNo)
  | callClear (cause : ClearCause)
  | callRaise (reasons : Reasons)
  | release (c : Consumer) (units : Nat)
  | claim (c : Consumer) (minimum maximum : Nat)
  | topup (c : Consumer) (minimum maximum : Nat)
  | roll (fields : RollFields)
  deriving DecidableEq, Repr

/-- A cluster frame: the sender's number, which stands in the arbitration field, and the payload (R28). -/
structure Frame where
  sender : StationNo
  body : FrameBody
  deriving DecidableEq, Repr

/-- What one receiver (D, SA or SB, R34) read of a frame, from its start slot to the end of its check field: every slot as it
was sent, or the levels listed (true for recessive, the binary 1), which the receiver then judges by R25 and R28. -/
inductive Reading where
  | asSent
  | slots (levels : List Bool)
  deriving DecidableEq, Repr

/-- Whether this station decoded a frame from its start slot (R27, R32), and what its three receivers read of it. -/
inductive Heard where
  | missed
  | read (d sa sb : Reading)
  deriving DecidableEq, Repr

/-- The three response slots as the other stations drive them, dominant when true (R32). -/
structure ResponseSlots where
  ack : Bool
  fault : Bool
  veto : Bool
  deriving DecidableEq, Repr

/-- The fields of ADD LINE (R11). `expected` holds the expected bag weight and its tolerance in grams. -/
structure LineFields where
  desc : Text
  quantity : Nat
  price : Nat
  expected : Option (Nat × Nat)
  noBag : Bool
  deriving DecidableEq, Repr

/-- The values of CONFIGURE (R185). -/
structure ConfigValues where
  budget : Nat
  headMax : Nat
  period : Nat
  produceZero : Int
  produceSpan : Nat
  baggingZero : Int
  baggingSpan : Nat
  kickWidth : Nat
  prefixes : List Text
  headers : List Text
  decimals : Nat
  deriving DecidableEq, Repr

/-- The commands of the lane link (section 11.5), with the fields of their payloads. -/
inductive HostCommand where
  | openSale (reference stamp : BitVec 32)
  | addLine (f : LineFields)
  | voidLine (index : Nat)
  | total
  | tenderCash (amount : Nat)
  | tenderCard (amount : Nat) (approval : Text)
  | voidSale
  | weighItem (desc : Text) (price : Nat) (bag : Nat)
  | cancelWeigh
  | restartScale
  | setZero
  | setTare (preset : Option Nat)
  | clearTare
  | discardCard
  | raiseAssist
  | withdrawAssist
  | noSale
  | retryDrawer
  | playTone (tone : Nat)
  | stopTone
  | reprintLast
  | writeIdentity (store : Nat) (label : Text)
  | readJournal (seq : Seq) (offset : Nat)
  | confirmExport (seq : Seq)
  | configure (v : ConfigValues)
  | readStatus
  | laneReset
  deriving DecidableEq, Repr

/-- The commands of the block, one for each row of spec/opcode_table.json. -/
inductive Instr where
  | powerOnReset (pins : Pins)
  | pinReset (pins : Pins)
  | messageReceived (check : LinkChar)
  | linkGapTimer
  | messageHandover
  | messageSent
  | openSale (tag : Byte) (reference stamp : BitVec 32)
  | addLine (tag : Byte) (f : LineFields)
  | voidLine (tag : Byte) (index : Nat)
  | total (tag : Byte)
  | tenderCash (tag : Byte) (amount : Nat)
  | tenderCard (tag : Byte) (amount : Nat) (approval : Text)
  | voidSale (tag : Byte)
  | weighItem (tag : Byte) (desc : Text) (price : Nat) (bag : Nat)
  | cancelWeigh (tag : Byte)
  | restartScale (tag : Byte)
  | setZero (tag : Byte)
  | setTare (tag : Byte) (preset : Option Nat)
  | clearTare (tag : Byte)
  | discardCard (tag : Byte)
  | raiseAssist (tag : Byte)
  | withdrawAssist (tag : Byte)
  | noSale (tag : Byte)
  | retryDrawer (tag : Byte)
  | playTone (tag : Byte) (tone : Nat)
  | stopTone (tag : Byte)
  | reprintLast (tag : Byte)
  | writeIdentity (tag : Byte) (store : Nat) (label : Text)
  | readJournal (tag : Byte) (seq : Seq) (offset : Nat)
  | confirmExport (tag : Byte) (seq : Seq)
  | configure (tag : Byte) (v : ConfigValues)
  | readStatus (tag : Byte)
  | laneReset (tag : Byte)
  | busFree
  | expire (sender : StationNo) (target : StationNo) (heard : Heard)
  | callRaise (sender : StationNo) (reasons : Reasons) (heard : Heard)
  | callClear (sender : StationNo) (cause : ClearCause) (heard : Heard)
  | shareClaim (sender : StationNo) (c : Consumer) (minimum maximum : Nat) (heard : Heard)
  | shareTopup (sender : StationNo) (c : Consumer) (minimum maximum : Nat) (heard : Heard)
  | shareRelease (sender : StationNo) (c : Consumer) (units : Nat) (heard : Heard)
  | roll (sender : StationNo) (fields : RollFields) (heard : Heard)
  | frameVetoed (frame : Frame) (heard : Heard)
  | frameVoid (frame : Frame) (heard : Heard) (others : ResponseSlots)
  | frameAborted (ours : Bool) (d sa sb : Bool)
  | listenTimer
  | rollTimer
  | silenceTimer (station : StationNo)
  | retryTimer
  | periodBoundary
  | negativeHalfStart
  | deadTimeEnd
  | settlePoint
  | forcedCutoff
  | conversionEnd (result : Int)
  | captureTimer
  | deadline (line : Nat)
  | swipeEnd
  | decodingEnd
  | windowTimer
  | debouncedChange (input : SenseInput)
  | claimTimer
  | pulseTimer
  | confirmTimer
  | retryGapTimer
  | openTimerAlarm
  | openTimerLong
  | toneEnd
  | toneStep
  | passEnd
  | stepEnd
  | hotPoll
  | mediaSettle
  | cutTimer
  | placeLine
  | takeAppend
  | eraseAheadStart
  | programDone (verified : Bool)
  | eraseDone (verified : Bool)
  | readDone
  | scanEnd
  | trackTransition (track : Track) (interval : Nat)
  | characterReceived (c : LinkChar)
  | rawLevelChange (input : SenseInput) (level : Level)
  | bridgeFaultToNormal (level : BridgeLevel)
  deriving DecidableEq, Repr

end Sys2Proof
end

