-- ==== Sys2Proof/Machine/State.lean ====
section
/-! DEFINITION. The state of the HC416 as plain data: one structure for each block of section 0.3, the queue of waiting
commands, and the state right after reset. -/

namespace Sys2Proof.Machine

/-! ## The sale record (Chapter 1) -/

/-- The sale states (R1). -/
inductive SaleState where
  | idle | opened | tender | settled | voided
  deriving DecidableEq, Repr

/-- Commit status (R2, R19). -/
inductive CommitStatus where
  | absent | pending | committed | failed
  deriving DecidableEq, Repr

/-- Print status (R2, R20). -/
inductive PrintStatus where
  | absent | running | done | doneUncut
  deriving DecidableEq, Repr

/-- Bag status of a line (R5), in the order of its record values (section 12.4). -/
inductive BagStatus where
  | skipped | pending | bagged | accepted | removalPending | removed
  deriving DecidableEq, Repr

/-- The kind of a line with what only that kind holds (R3): a quantity, or a net weight in grams. -/
inductive LineKind where
  | item (quantity : Nat)
  | weighed (grams : Nat)
  deriving DecidableEq, Repr

/-- A line of the line list (R3). Its index is its position. `expected` holds grams and tolerance in grams. -/
structure Line where
  kind : LineKind
  desc : Text
  price : Nat
  amount : Nat
  voided : Bool
  bag : BagStatus
  expected : Option (Nat × Nat)
  deriving DecidableEq, Repr

/-- The kind of a tender; a card tender holds the masked account number and the approval code (R6). -/
inductive TenderKind where
  | cash
  | card (masked approval : Text)
  deriving DecidableEq, Repr

/-- A tender (R6). -/
structure Tender where
  kind : TenderKind
  amount : Nat
  deriving DecidableEq, Repr

/-- The kinds of print job (R138). -/
inductive JobKind where
  | sale | voidSale | copy
  deriving DecidableEq, Repr

/-- The sale record (R2). `reservation` holds the worst-case amount of the capture in flight (R12); `waitingJob` the receipt
request that waits for the print engine (R20). -/
structure Sale where
  state : SaleState
  reference : BitVec 32
  stamp : BitVec 32
  lines : List Line
  tenders : List Tender
  total : Nat
  due : Nat
  change : Nat
  drawerUsed : Bool
  receipt : Option Nat
  journalSeq : Option Seq
  commit : CommitStatus
  print : PrintStatus
  reservation : Option Nat
  waitingJob : Option JobKind
  deriving DecidableEq, Repr

/-- The record's values in IDLE (R2, second column). -/
def Sale.idle : Sale :=
  { state := .idle, reference := 0, stamp := 0, lines := [], tenders := [], total := 0, due := 0, change := 0,
    drawerUsed := false, receipt := none, journalSeq := none, commit := .absent, print := .absent,
    reservation := none, waitingJob := none }

/-! ## The cluster unit (Chapters 2 and 3) -/

/-- The twelve call reasons, in the order of their bits (section 12.3). -/
inductive CallReason where
  | bagMismatch | bagTimeout | unexpectedItem | itemRemoved | scaleFault | drawerForced
  | drawerJam | drawerOpenLong | paperOut | printerJam | journalFull | assist
  deriving DecidableEq, Repr

/-- Station states (R44). -/
inductive StationState where
  | off | listen | joining | member | lone
  deriving DecidableEq, Repr

/-- LONE causes (R44). -/
inductive LoneCause where
  | line | alone | duplicate | budget
  deriving DecidableEq, Repr

/-- Line diagnosis modes: the active receiver is D, SA or SB (R34). -/
inductive LineMode where
  | full | aOnly | bOnly
  deriving DecidableEq, Repr

/-- Cause of a LINE MODE notice (R36). -/
inductive LineModeCause where
  | count | evaluation | listen
  deriving DecidableEq, Repr

/-- A row of the supply table for another station (R53). -/
structure Row where
  station : StationNo
  printer : Nat
  drawer : Nat
  deriving DecidableEq, Repr

/-- An entry of the call queue (R61); a ticket of `none` is NONE. -/
structure CallEntry where
  station : StationNo
  ticket : Option Ticket
  reasons : Reasons
  deriving DecidableEq, Repr

/-- Request state of a consumer (R57). -/
inductive RequestState where
  | idle | asking | waiting
  deriving DecidableEq, Repr

/-- A consumer record (R57). `holding` is also the own row's count of the supply table (R53): one home for both. -/
structure ConsumerRec where
  holding : Nat
  request : RequestState
  claim : Option (Nat × Nat)
  deriving DecidableEq, Repr

/-- A frame of the outgoing frame list before it is filled (R39 to R42). -/
inductive OutBody where
  | expire (target : StationNo)
  | callClear (cause : ClearCause)
  | callRaise (reasons : Reasons)
  | release (c : Consumer) (units : Nat)
  | claim (c : Consumer) (minimum maximum : Nat)
  | topup (c : Consumer) (minimum maximum : Nat)
  | roll
  deriving DecidableEq, Repr

/-- A frame of the outgoing frame list with its age: the moment it was first added, as a count of additions (R39). -/
structure OutFrame where
  age : Nat
  body : OutBody
  deriving DecidableEq, Repr

/-- The own frame on the bus: its place in the list, by age, and the frame as filled at its start slot (R39). -/
structure OnBus where
  age : Nat
  frame : Frame
  deriving DecidableEq, Repr

/-- A request held until the outcome of the frame on the bus that it would change (R39). -/
inductive BusRequest where
  | call (body : OutBody)
  | supply (body : OutBody) (c : Consumer)
  | release (c : Consumer)
  deriving DecidableEq, Repr

/-- What is kept of one failed transmission (R37): whether ACK was recessive, whether FAULT was dominant, and whether each
receiver's copy was good. -/
structure FailedSend where
  ackRecessive : Bool
  faultDominant : Bool
  d : Bool
  sa : Bool
  sb : Bool
  deriving DecidableEq, Repr

/-- The call light (R67). -/
inductive CallLight where
  | off | steady | flash
  deriving DecidableEq, Repr

/-- The cluster unit. The own row of the supply table is the two consumers' holdings; `peers` holds the other rows, by station
number. `silence` holds one timer for each other station with a row or entry (R49). The failure count is the length of
`failures`, newest first (R37). `retryPassed` records that the retry timer has reached 10 s with units held (R52). -/
structure Cluster where
  state : StationState
  loneCause : Option LoneCause
  number : StationNo
  budget : Option Nat
  listen : Timer
  rollTimer : Timer
  retry : Timer
  retryPassed : Bool
  duplicate : Bool
  budgetMark : Bool
  mode : LineMode
  fullCount : Nat
  backCount : Nat
  failures : List FailedSend
  out : List OutFrame
  nextAge : Nat
  onBus : Option OnBus
  heldRequests : List BusRequest
  expireWaiting : List StationNo
  peers : List Row
  queue : List CallEntry
  counter : Ticket
  learned : Bool
  silence : List (StationNo × Nat)
  wanted : Reasons
  printer : ConsumerRec
  drawer : ConsumerRec
  deriving DecidableEq, Repr

/-! ## The scale front end (Chapter 4) -/

/-- The point a period has reached (R68): each half has a dead time, then its drive. -/
inductive DrivePhase where
  | positiveDead | positiveDrive | negativeDead | negativeDrive
  deriving DecidableEq, Repr

/-- The excitation generator (R68). `phase` is the drive while RUNNING; all outputs are off while STOPPED and in a dead time.
`period` is P in milliseconds. -/
structure Generator where
  running : Bool
  restart : Bool
  phase : DrivePhase
  timer : Timer
  period : Nat
  bridge : BridgeLevel
  deriving DecidableEq, Repr

/-- The requesters of the conversion unit (R71). -/
inductive Requester where
  | produce | bagging | temperature
  deriving DecidableEq, Repr

/-- The conversion unit (R71). `discard` marks a scale conversion whose result is to be discarded (R69). -/
structure Converter where
  produce : Bool
  bagging : Bool
  temperature : Bool
  converting : Option Requester
  discard : Bool
  deriving DecidableEq, Repr

/-- Channel states (section 4.4). -/
inductive ChannelState where
  | off | warmup | noZero | ready | overload | underload | fault
  deriving DecidableEq, Repr

/-- A weighing channel (R73 to R78). Net samples are kept doubled, in half counts, newest last, so the sum of eight is the
filtered value in sixteenths of a count; the zero reference and the initial zero are in sixteenths too. `gross` and `net` are
those of the latest weight, in divisions. `tare` and `initialZero` are the produce channel's; `baselineWanted` the bagging
channel's. -/
structure Channel where
  state : ChannelState
  positive : Option Int
  samples : List Int
  weights : List Int
  stable : Bool
  gross : Option Int
  net : Option Int
  zeroRef : Int
  zeroCount : Int
  span : Nat
  initialZero : Option Int
  tare : Option Nat
  baselineWanted : Bool
  deriving DecidableEq, Repr

/-- What a WEIGHT notice carries (R84); net and tare in grams. -/
structure WeightReport where
  produce : ChannelState
  net : Option Int
  stable : Bool
  tare : Option Nat
  bagging : ChannelState
  deriving DecidableEq, Repr

/-- The scale front end. `lastReport` is what the last WEIGHT notice carried (R84). -/
structure Scale where
  gen : Generator
  conv : Converter
  produce : Channel
  bagging : Channel
  lastReport : Option WeightReport
  deriving DecidableEq, Repr

/-! ## The capture unit and the bagging verifier (Chapter 5) -/

/-- The capture states other than NONE (R85). -/
inductive CapturePhase where
  | waitZero | waitStable
  deriving DecidableEq, Repr

/-- A capture in flight (R85). -/
structure CaptureRec where
  phase : CapturePhase
  desc : Text
  price : Nat
  bag : Bool
  timer : Nat
  deriving DecidableEq, Repr

/-- Outcomes of a capture (R91). -/
inductive CaptureOutcome where
  | captured | timeout | cancelled | fault | voided
  deriving DecidableEq, Repr

/-- The capture unit: the capture record (`none` is NONE, R85) and the zero-return interlock, SET when true (R92). -/
structure Capture where
  flight : Option CaptureRec
  interlock : Bool
  deriving DecidableEq, Repr

/-- An entry of the expectation list (R93), in bagging divisions. `age` is the time since it was posted, towards 15 s. -/
structure Expectation where
  line : Nat
  removal : Bool
  expected : Int
  tolerance : Nat
  age : Nat
  overdue : Bool
  deriving DecidableEq, Repr

/-- What the verifier keeps of a line's PLACE entry for as long as the sale lasts (R94). -/
structure KeptWeight where
  line : Nat
  expected : Int
  tolerance : Nat
  deriving DecidableEq, Repr

/-- The bagging verifier (R93 to R95). -/
structure Bagging where
  entries : List Expectation
  baseline : Option Int
  kept : List KeptWeight
  deriving DecidableEq, Repr

/-! ## The card decoder and the authority timer (Chapter 6) -/

/-- Swipe phases (R104). -/
inductive SwipePhase where
  | quiet | collecting | decoding | skipping
  deriving DecidableEq, Repr

/-- A track channel (R104, R105). Bits in the order collected; `cells` the most recent three cells added, newest first, in
microseconds: three of them are the estimate. `since` is the time since the last counted transition, `none` before the first. -/
structure TrackChannel where
  bits : List Bool
  cells : List Nat
  since : Option Nat
  half : Option Nat
  opened : Bool
  full : Bool
  deriving DecidableEq, Repr

/-- Direction of a card (R108, R111). -/
inductive Direction where
  | forward | reverse
  deriving DecidableEq, Repr

/-- Status of a track (R108, R109). -/
inductive TrackStatus where
  | absent | noStart | noEnd | tooLong
  | parity (index : Nat)
  | check | good
  deriving DecidableEq, Repr

/-- A card's class (R112). -/
inductive CardClass where
  | attendant | customer | unreadable
  deriving DecidableEq, Repr

/-- A card record (R111). Track characters are data values. `id` tells one record from another, for R113 (the model's own). -/
structure CardRecord where
  id : Nat
  direction : Direction
  trackA : TrackStatus
  charsA : List Byte
  trackB : TrackStatus
  charsB : List Byte
  account : Option (List Byte)
  cls : CardClass
  overrun : Bool
  deriving DecidableEq, Repr

/-- The card decoder (R104, R107, R112). `late` marks that a transition arrived during decoding. Prefixes are digit codes. -/
structure Card where
  phase : SwipePhase
  a : TrackChannel
  b : TrackChannel
  swipeTimer : Timer
  late : Bool
  held : Option CardRecord
  prefixes : List Text
  nextId : Nat
  deriving DecidableEq, Repr

/-- Key states (R117). -/
inductive KeyState where
  | home | turned | spent
  deriving DecidableEq, Repr

/-- The authority timer (R117). -/
structure Authority where
  window : Timer
  key : KeyState
  deriving DecidableEq, Repr

/-- The source of an attendant event (R118), as the NO_SALE and CALL records hold it. -/
inductive AuthSource where
  | card | key
  deriving DecidableEq, Repr

/-- Result of a clear attempt (R120). -/
inductive ClearResult where
  | noCall | cleared | notAccepted | journalBusy
  deriving DecidableEq, Repr

/-! ## Drawer, sense unit, tones (Chapter 7) -/

/-- A sense input: raw level, debounced level, and the 10 ms count (R121). -/
structure SensePin where
  raw : Level
  debounced : Level
  count : Timer
  deriving DecidableEq, Repr

/-- A watch: the levels its owner expects of its inputs, in the order of R122, and its matching mark. -/
structure Watch where
  expected : List Level
  matching : Bool
  deriving DecidableEq, Repr

/-- The sense unit (R121, R122). -/
structure Sense where
  drawer : SensePin
  paper : SensePin
  cover : SensePin
  nearEnd : SensePin
  cutterHome : SensePin
  key : SensePin
  spare1 : SensePin
  spare2 : SensePin
  watchDrawer : Watch
  watchMedia : Watch
  watchNearEnd : Watch
  watchKey : Watch
  watchCutter : Watch
  deriving DecidableEq, Repr

/-- Drawer states (R124). -/
inductive DrawerState where
  | closed | claiming | kicking | confirm | retryGap | opened | forced | jammed
  deriving DecidableEq, Repr

/-- Jam causes (R124). -/
inductive JamCause where
  | supply | noOpen
  deriving DecidableEq, Repr

/-- The drawer controller (R124). `noSaleSource` is the authority source NO SALE recorded (R131); `alarmAsked` that ALARM has
been asked for this opening (R130); `kickWidth` is in milliseconds. The solenoid is on exactly in KICKING (R127). -/
structure Drawer where
  state : DrawerState
  jam : Option JamCause
  retryCount : Nat
  openedMark : Bool
  noSale : Bool
  noSaleSource : AuthSource
  claimTimer : Timer
  pulseTimer : Timer
  confirmTimer : Timer
  gapTimer : Timer
  openTimer : Timer
  alarmAsked : Bool
  kickWidth : Nat
  deriving DecidableEq, Repr

/-- The four tones (R135), in the order of that rule. -/
inductive ToneName where
  | alarm | alert | double | chirp
  deriving DecidableEq, Repr

/-- Sources of a tone (R136). -/
inductive ToneSource where
  | host | cardDecoder | authorityTimer | drawerController
  deriving DecidableEq, Repr

/-- The tone playing (R135): its progress is the time since it began and the steps its sound has taken (ALERT's envelope
stands at 8 less the steps, in eighths of full level). -/
structure Playing where
  tone : ToneName
  source : ToneSource
  elapsed : Nat
  steps : Nat
  deriving DecidableEq, Repr

/-- What the sounder sounds (section 7.4): a pitch in hertz, and a level in eighths of full level. -/
structure Sound where
  hertz : Nat
  level : Nat
  deriving DecidableEq, Repr

/-! ## The print engine and the receipt composer (Chapters 8 and 9) -/

/-- Engine states (R138). -/
inductive EngineState where
  | idle | claiming | printing | pausedMedia | pausedHot | waitCommit | feeding | cutting
  deriving DecidableEq, Repr

/-- Strobe widths (R141): 1.20, 1.00, 0.85 and 0.70 ms, and HOT. -/
inductive Strobe where
  | w120 | w100 | w085 | w070 | hot
  deriving DecidableEq, Repr

/-- Job outcomes (R153). -/
inductive JobOutcome where
  | done | doneUncut | abandoned
  deriving DecidableEq, Repr

/-- The line in print: its text and the index of the next row to print, 28 when no row is left (R138). -/
structure LineInPrint where
  text : Text
  nextRow : Nat
  deriving DecidableEq, Repr

/-- A staged row (R138, R143): dot image, pass size D and pass count, strobe width, and whether it is a feed row. -/
structure StagedRow where
  image : BitVec 512
  passSize : Nat
  passes : Nat
  width : Strobe
  feed : Bool
  deriving DecidableEq, Repr

/-- The current row (R138): the pass in progress and the passes still to come, each the dots it energises. -/
structure CurrentRow where
  image : BitVec 512
  width : Strobe
  pass : Option (List Nat)
  plan : List (List Nat)
  feed : Bool
  deriving DecidableEq, Repr

/-- The two steps of a row (R142), and a step of a row that has been discarded, which completes (R146). -/
inductive MotorStep where
  | one | two | leftover
  deriving DecidableEq, Repr

/-- The print engine (R138). `inFeed` says that the job has reached its feed, through the pauses of R151; `step` is the motor
step in progress; `headMax` is H. The head is on exactly while a pass is in progress, the cutter motor exactly in CUTTING. -/
structure Engine where
  state : EngineState
  job : Option JobKind
  line : Option LineInPrint
  current : Option CurrentRow
  staged : Option StagedRow
  mediaPause : Bool
  inFeed : Bool
  feedCount : Nat
  cutTimer : Timer
  step : Option MotorStep
  motorPhase : BitVec 2
  headTemp : Option Int
  mediaSettle : Timer
  paperOut : Bool
  headMax : Nat
  deriving DecidableEq, Repr

/-- Composer states (R155). -/
inductive ComposerState where
  | idle | composing | footerWait | lastGiven
  deriving DecidableEq, Repr

/-- The sections of a receipt (R159). -/
inductive ReceiptSection where
  | header | store | reference | banner | items | total | tenders | settlement | footer
  deriving DecidableEq, Repr

/-- The composition cursor: section, item within it, text line within that item (R155). -/
structure Cursor where
  part : ReceiptSection
  item : Nat
  sub : Nat
  deriving DecidableEq, Repr

/-- Copy check (R155). -/
inductive CopyCheck where
  | good | failed | unknown
  deriving DecidableEq, Repr

/-- The copy of a journal record in progress (R155, R164): its sequence number and location, the check, the bytes read so far
(their count is the offset reached), whether a read is under way, and whether the record proved unreadable. -/
structure CopySource where
  seq : Seq
  addr : Nat
  check : CopyCheck
  bytes : List Byte
  reading : Bool
  deriving DecidableEq, Repr

/-- The receipt composer (R155, R156). -/
structure Composer where
  state : ComposerState
  kind : Option JobKind
  cursor : Option Cursor
  copy : Option CopySource
  headers : List Text
  decimals : Nat
  queue : List Text
  deriving DecidableEq, Repr

/-! ## The journal controller (Chapter 10) -/

/-- The identity block's state (R168). -/
inductive Identity where
  | blank
  | written (store : Nat) (label : Text)
  | damaged
  deriving DecidableEq, Repr

/-- Journal levels (R176). -/
inductive JournalLevel where
  | normal | nearFull | full | fault
  deriving DecidableEq, Repr

/-- Record kinds, in the order of their values 1 to 6 (section 12.4). -/
inductive RecordKind where
  | sale | voidSale | noSale | call | mark | pad
  deriving DecidableEq, Repr

/-- A ring block that is not ERASED (R167): WRITTEN with the lowest and highest sequence of its committed records, or DIRTY. -/
inductive BlockState where
  | written (range : Option (Seq × Seq))
  | dirty
  deriving DecidableEq, Repr

/-- A waiting append (R171): the sale's holds a reference to the sale record, the others what they were handed. -/
inductive Append where
  | sale (isVoid : Bool)
  | noSale (source : AuthSource)
  | call (ticket : Option Ticket) (reasons : Reasons) (source : AuthSource) (digits : Text)
  | mark (value : Seq)
  deriving DecidableEq, Repr

/-- The append in progress (R172): its record's kind, numbers, place and length, and the page programs still to be done, the
first of them at the arbiter. -/
structure TakenAppend where
  kind : RecordKind
  seq : Seq
  receipt : Option Nat
  markValue : Option Seq
  addr : Nat
  length : Nat
  programs : List (Nat × List Byte)
  deriving DecidableEq, Repr

/-- Who asked for an array operation (R173). -/
inductive ArrayOwner where
  | append | identity | reader | copy | scan | eraseAhead
  deriving DecidableEq, Repr

/-- A block erase: its block, how often it has been suspended, and the erasing time so far (R173). -/
structure EraseOp where
  owner : ArrayOwner
  block : Nat
  suspensions : Nat
  elapsed : Nat
  deriving DecidableEq, Repr

/-- An operation of the array (R166). -/
inductive ArrayOp where
  | program (owner : ArrayOwner) (addr : Nat) (bytes : List Byte)
  | read (owner : ArrayOwner) (addr length : Nat)
  | erase (e : EraseOp)
  deriving DecidableEq, Repr

/-- The array arbiter (R173): the operation running, the programs and reads waiting, oldest first, and the suspended erase. -/
structure Arbiter where
  running : Option ArrayOp
  waiting : List ArrayOp
  suspended : Option EraseOp
  deriving DecidableEq, Repr

/-- A WRITE IDENTITY in progress (R168): its values, whether block 0 must be erased first, the page programs still to be done,
and whether anything has been programmed. -/
structure IdentityWrite where
  store : Nat
  label : Text
  erase : Bool
  programs : List (Nat × List Byte)
  touched : Bool
  deriving DecidableEq, Repr

/-- A READ JOURNAL in progress (R177): the record asked for, its block, `walk`, the offset within the block that the header reads
have reached, and the record's kind and length once its header has been met. -/
structure JournalReader where
  tag : Byte
  seq : Seq
  offset : Nat
  block : Nat
  walk : Nat
  found : Option (RecordKind × Nat)
  deriving DecidableEq, Repr

/-- The last committed SALE or VOID record: sequence and location (R167). -/
structure LastSale where
  seq : Seq
  addr : Nat
  deriving DecidableEq, Repr

/-- The journal controller (R167). `blocks` lists the ring blocks that are not ERASED, by number. `scan` is the next address
the start-up scan reads. -/
structure Journal where
  array : List Host.Cell
  identity : Identity
  level : JournalLevel
  writeBlock : Nat
  rest : Nat
  blocks : List (Nat × BlockState)
  lastSeq : Seq
  lastReceipt : Nat
  lastSale : Option LastSale
  mark : Seq
  queue : List Append
  taken : Option TakenAppend
  blocked : Bool
  arbiter : Arbiter
  identityWrite : Option IdentityWrite
  reader : Option JournalReader
  scan : Option Nat
  deriving DecidableEq, Repr

/-! ## The lane link (Chapter 11): replies, notices, assembler, transmitter -/

/-- The refusal reasons of a reply, in the order of R182. -/
inductive RefusalReason where
  | badState | busy | held | noConfig | noIdentity | range | full | journalFull | journalFault | journalBusy
  | noAuthority | drawerOpen | tendered | bagPending | noCard | noRecord | locked | unknown
  deriving DecidableEq, Repr

/-- Part states (R184). -/
inductive PartState where
  | starting | unconfigured | running
  deriving DecidableEq, Repr

/-- The errors of a LINK ERROR notice, in the order of R181. -/
structure LinkErrors where
  parity : Bool
  framing : Bool
  overrun : Bool
  length : Bool
  gap : Bool
  check : Bool
  deriving DecidableEq, Repr

/-- Card buffer states (R107). -/
inductive BufferState where
  | empty | swiping | decoding | held
  deriving DecidableEq, Repr

/-- The fields of a sale command's DONE reply (R9). `change` is present when the command brought the sale into SETTLED. -/
structure SaleReport where
  state : SaleState
  total : Nat
  due : Nat
  change : Option Nat
  deriving DecidableEq, Repr

/-- The snapshot of READ STATUS (R186). -/
structure StatusReport where
  part : PartState
  straps : Straps
  lost : Bool
  saleState : SaleState
  total : Nat
  due : Nat
  lineCount : Nat
  tenderCount : Nat
  commit : CommitStatus
  print : PrintStatus
  station : StationState
  loneCause : Option LoneCause
  mode : LineMode
  printerUnits : Nat
  drawerUnits : Nat
  wanted : Reasons
  place : Nat
  ticket : Option Ticket
  light : CallLight
  produce : ChannelState
  bagging : ChannelState
  net : Option Int
  tare : Option Nat
  capture : Option CapturePhase
  interlock : Bool
  buffer : BufferState
  overrun : Bool
  authority : Bool
  windowSeconds : Nat
  key : KeyState
  levels : SenseLevels
  marks : List Bool
  drawer : DrawerState
  jam : Option JamCause
  openSeconds : Nat
  noSale : Bool
  engine : EngineState
  job : Option JobKind
  holding : Nat
  headTemp : Option Int
  paperOut : Bool
  printerJam : Bool
  nearEnd : Level
  waitingAppends : Nat
  takenKind : Option RecordKind
  level : JournalLevel
  available : Nat
  lastSeq : Seq
  lastReceipt : Nat
  mark : Seq
  identity : Identity
  deriving DecidableEq, Repr

/-- The fields that a DONE or ACCEPTED reply carries, by the rule of its command. -/
inductive ReplyFields where
  | nothing
  | sale (r : SaleReport)
  | line (r : SaleReport) (index amount : Nat)
  | card (r : SaleReport) (overrun : Bool)
  | capture (start : CapturePhase)
  | gross (grams : Int)
  | tare (tare : Nat) (net : Int)
  | net (net : Option Int)
  | overrun (mark : Bool)
  | wanted (set : Reasons)
  | toneResult (playing : Bool) (tone : Option ToneName)
  | toneStopped (tone : Option ToneName)
  | copySource (seq : Seq)
  | record (seq : Seq) (offset length : Nat) (kind : RecordKind) (bytes : List Byte)
  | laneReset (before : SaleState) (sale capture job : Bool)
  | status (r : StatusReport)
  deriving DecidableEq, Repr

/-- A reply (R182). -/
inductive ReplyBody where
  | done (f : ReplyFields)
  | accepted (f : ReplyFields)
  | refused (r : RefusalReason)
  deriving DecidableEq, Repr

/-- A formed reply: the KIND and TAG of its command, and its body. -/
structure Reply where
  kind : Byte
  tag : Byte
  body : ReplyBody
  deriving DecidableEq, Repr

/-- What a captured line adds to a CAPTURE notice (R91). -/
structure CapturedLine where
  index : Nat
  grams : Nat
  price : Nat
  amount : Nat
  bag : BagStatus
  deriving DecidableEq, Repr

/-- Results of a BAGGING notice (R103). -/
inductive BaggingResult where
  | atBaseline
  | matched (lines : List Nat)
  | mismatch (delta : Int)
  | unexpected (delta : Int)
  | removed (delta : Int)
  | overdue (line : Nat)
  | accepted (lines : List Nat)
  | clearRefused (bagging : ChannelState)
  deriving DecidableEq, Repr

/-- The operation whose verify failed (R175). -/
inductive FailedOp where
  | program | erase
  deriving DecidableEq, Repr

/-- The forms of the JOURNAL notice (R168, R175, R176, R178, R179). -/
inductive JournalReport where
  | level (before after : JournalLevel) (available : Nat)
  | fault (before : JournalLevel) (available : Nat) (op : FailedOp) (block : Nat)
  | identityWritten
  | exportMark (mark : Seq)
  | scanEnd (level : JournalLevel) (identity : Identity) (lastSeq mark : Seq) (torn dirty : Nat)
  deriving DecidableEq, Repr

/-- The notices (section 12.1), each with the content its rule gives. -/
inductive Notice where
  | call (place count : Nat) (ticket : Option Ticket) (reasons : Reasons) (light : CallLight)
  | linkError (errors : LinkErrors) (chars : Nat)
  | cardRead (id : Nat) (direction : Direction) (a b : TrackStatus)
  | cardError (direction : Direction) (a b : TrackStatus)
  | cardOverrun (cls : CardClass) (a b : TrackStatus)
  | capture (outcome : CaptureOutcome) (line : Option CapturedLine) (total : Nat)
  | bagging (result : BaggingResult) (entries : Nat)
  | drawer (before after : DrawerState) (jam : Option JamCause) (retryCount : Nat) (noSaleHanded : Bool)
  | attendant (source : AuthSource) (digits : Text) (result : ClearResult)
  | authority (present window : Bool) (key : KeyState)
  | saleComplete (reference : BitVec 32) (state : SaleState) (receipt : Option Nat) (seq : Option Seq)
      (commit : CommitStatus) (print : PrintStatus)
  | print (before after : EngineState) (kind : Option JobKind) (holding : Nat) (outcome : Option JobOutcome)
  | nearEnd (level : Level)
  | reprint (seq : Seq) (receipt : Option Nat) (check : CopyCheck) (outcome : JobOutcome)
  | journal (report : JournalReport)
  | input (input : SenseInput) (level : Level)
  | station (before after : StationState) (cause : Option LoneCause) (rows : Nat)
  | lineMode (before after : LineMode) (cause : LineModeCause)
  | tableConflict (station : StationNo) (field : Consumer) (before : Nat) (roll : Option Nat) (taken : Nat)
  | part (state : PartState) (station : Option (Straps × Identity))
  | weight (report : WeightReport)
  deriving DecidableEq, Repr

/-- Assembler states (R181). -/
inductive AssemblerState where
  | hunt | length | body | check
  deriving DecidableEq, Repr

/-- The receive assembler (R181, R182): `buffer` holds LENGTH, the body and CHECK as received; `held` the body of a good message
that waits for a reply place, `dropped` the characters dropped meanwhile. -/
structure Assembler where
  state : AssemblerState
  buffer : List Byte
  due : Nat
  errors : LinkErrors
  gap : Timer
  held : Option (List Byte)
  dropped : Nat
  deriving DecidableEq, Repr

/-- The message in the transmitter (R183): its characters (R180), and whether it is a reply. -/
structure Sending where
  chars : List LinkChar
  reply : Bool
  deriving DecidableEq, Repr

/-- The lane link. `replies` holds the formed replies, oldest first; `reserved` the TAG of a READ JOURNAL whose place is
reserved and whose reply is not yet formed (R182). `notices` is ordered head first (R183). -/
structure Link where
  part : PartState
  straps : Straps
  assembler : Assembler
  replies : List Reply
  reserved : Option Byte
  notices : List Notice
  lost : Bool
  sending : Option Sending
  deriving DecidableEq, Repr

/-! ## The whole -/

/-- The state of the part, with the queue of commands waiting and the model's counter of free values. -/
structure State where
  link : Link
  sale : Sale
  cluster : Cluster
  scale : Scale
  capture : Capture
  bagging : Bagging
  card : Card
  authority : Authority
  sense : Sense
  drawer : Drawer
  tone : Option Playing
  engine : Engine
  composer : Composer
  journal : Journal
  fresh : Nat
  pending : List Instr
  deriving DecidableEq, Repr

/-- The spec names no event that stops the part, so no meaning raises a fault: the type has no constructor. Safe. -/
inductive Fault where
  deriving DecidableEq, Repr

/-- Why the model has no answer. -/
inductive Refusal where
  /-- Raised by an arm of `exec` whose row has no meaning yet, named by its mnemonic; no arm raises it. Safe: the model stops. -/
  | notModelled (mnemonic : String)
  deriving DecidableEq, Repr

/-! ## Hardware reset values -/

/-- No error seen. -/
def LinkErrors.clear : LinkErrors :=
  { parity := false, framing := false, overrun := false, length := false, gap := false, check := false }

/-- R181: HUNT with an empty buffer and no errors. -/
def Assembler.reset : Assembler :=
  { state := .hunt, buffer := [], due := 0, errors := .clear, gap := none, held := none, dropped := 0 }

/-- R183, R184: STARTING, empty queue and list, LOST clear, transmitter idle; the straps as sampled. -/
def Link.reset (p : Straps) : Link :=
  { part := .starting, straps := p, assembler := .reset, replies := [], reserved := none, notices := [], lost := false,
    sending := none }

/-- R57: holding 0, request NONE, no claim. -/
def ConsumerRec.reset : ConsumerRec := { holding := 0, request := .idle, claim := none }

/-- R36, R37, R43, R44, R49, R53, R57, R61, R64: the cluster unit after a hardware reset. -/
def Cluster.reset (n : StationNo) : Cluster :=
  { state := .off, loneCause := none, number := n, budget := none, listen := none, rollTimer := none, retry := none,
    retryPassed := false, duplicate := false, budgetMark := false, mode := .full, fullCount := 0, backCount := 0,
    failures := [], out := [], nextAge := 0, onBus := none, heldRequests := [], expireWaiting := [], peers := [],
    queue := [], counter := 0, learned := false, silence := [], wanted := 0, printer := .reset, drawer := .reset }

/-- R74 to R78, R82: a channel after a hardware reset, OFF. The calibration has no reset value in the spec: log entry 7. -/
def Channel.reset : Channel :=
  { state := .off, positive := none, samples := [], weights := [], stable := false, gross := none, net := none,
    zeroRef := 0, zeroCount := 0, span := 1, initialZero := none, tare := none, baselineWanted := false }

/-- R68, R71: STOPPED, restart mark clear, slots empty, converter idle; the BRIDGE_FAULT input as it stands. -/
def Scale.reset (b : BridgeLevel) : Scale :=
  { gen := { running := false, restart := false, phase := .positiveDead, timer := none, period := 0, bridge := b },
    conv := { produce := false, bagging := false, temperature := false, converting := none, discard := false },
    produce := .reset, bagging := .reset, lastReport := none }

/-- R85, R92: NONE, interlock released. -/
def Capture.reset : Capture := { flight := none, interlock := false }

/-- R93, R95: empty list, baseline absent. -/
def Bagging.reset : Bagging := { entries := [], baseline := none, kept := [] }

/-- R104: an empty, closed channel. -/
def TrackChannel.closed : TrackChannel :=
  { bits := [], cells := [], since := none, half := none, opened := false, full := false }

/-- R104, R107, R112: QUIET, closed channels, no record, an empty prefix table. -/
def Card.reset : Card :=
  { phase := .quiet, a := .closed, b := .closed, swipeTimer := none, late := false, held := none, prefixes := [], nextId := 0 }

/-- R117: window stopped, key HOME. -/
def Authority.reset : Authority := { window := none, key := .home }

/-- R121: a debounced level takes the raw level present when the reset ends. -/
def SensePin.at (l : Level) : SensePin := { raw := l, debounced := l, count := none }

/-- R122: each owner sets the pattern of the lane at rest; the mark is taken from the debounced levels. -/
def Watch.at (ls : List Level) : Watch :=
  { expected := ls.map (fun _ => Level.first), matching := ls.all (fun l => l == Level.first) }

/-- R121, R122: the sense unit after a hardware reset. -/
def Sense.reset (l : SenseLevels) : Sense :=
  { drawer := .at l.drawer, paper := .at l.paper, cover := .at l.cover, nearEnd := .at l.nearEnd,
    cutterHome := .at l.cutterHome, key := .at l.key, spare1 := .at l.spare1, spare2 := .at l.spare2,
    watchDrawer := .at [l.drawer], watchMedia := .at [l.paper, l.cover], watchNearEnd := .at [l.nearEnd],
    watchKey := .at [l.key], watchCutter := .at [l.cutterHome] }

/-- R124: CLOSED if the DRAWER watch matches, OPEN otherwise; kick width 80 ms. -/
def Drawer.reset (shut : Bool) : Drawer :=
  { state := if shut then .closed else .opened, jam := none, retryCount := 0, openedMark := false, noSale := false,
    noSaleSource := .card, claimTimer := none, pulseTimer := none, confirmTimer := none, gapTimer := none, openTimer := none,
    alarmAsked := false, kickWidth := 80 }

/-- R138: every job field at its IDLE value, motor position 0 (R138's value, where R142 gives the position last completed: log entry 60), head
temperature absent. H has no reset value: log entry 7. -/
def Engine.reset : Engine :=
  { state := .idle, job := none, line := none, current := none, staged := none, mediaPause := false, inFeed := false,
    feedCount := 0, cutTimer := none, step := none, motorPhase := 0, headTemp := none, mediaSettle := none,
    paperOut := false, headMax := 1 }

/-- R155, R156: IDLE, empty queue, no headers, decimals 0. -/
def Composer.reset : Composer :=
  { state := .idle, kind := none, cursor := none, copy := none, headers := [], decimals := 0, queue := [] }

/-- R167: the journal controller after a hardware reset, before the scan; the array is kept. The fields that the scan sets
have no value of the spec's until then: log entry 9. The scan's first read is at the arbiter (R179). -/
def Journal.reset (array : List Host.Cell) : Journal :=
  { array := array, identity := .blank, level := .normal, writeBlock := 1023, rest := 0, blocks := [], lastSeq := 0,
    lastReceipt := 0, lastSale := none, mark := 0, queue := [], taken := none, blocked := false,
    arbiter := { running := some (.read .scan 0 256), waiting := [], suspended := none },
    identityWrite := none, reader := none, scan := some 256 }

/-- The part after a hardware reset, with the pins and array it finds; the queue is kept. -/
def State.hardwareReset (p : Pins) (array : List Host.Cell) (fresh : Nat) (pending : List Instr) : State :=
  { link := .reset p.straps, sale := .idle, cluster := .reset p.straps.station, scale := .reset p.bridge,
    capture := .reset, bagging := .reset, card := .reset, authority := .reset, sense := .reset p.levels,
    drawer := .reset (p.levels.drawer == .first), tone := none, engine := .reset, composer := .reset,
    journal := .reset array, fresh := fresh, pending := pending }

/-- The pins of the model's reset: station 0, rate straps low, the lane at rest, BRIDGE_FAULT at NORMAL. Log entry 7. -/
def Pins.rest : Pins :=
  { straps := { station := 0, rateFirst := false, rateSecond := false },
    levels := { drawer := .first, paper := .first, cover := .first, nearEnd := .first, cutterHome := .first, key := .first,
                spare1 := .first, spare2 := .first },
    bridge := .normal }

/-- The part right after power-on reset (R184), with the pins at rest (log entry 7), an erased array (log entry 8) and an empty
queue. -/
def State.reset : State := State.hardwareReset Pins.rest [] 0 []

end Sys2Proof.Machine
end

