-- ==== Sys2Proof/Machine/Flags.lean ====
section
/-! DEFINITION. The marks, sets and conditions that several blocks read: call reasons, the held condition, authority, the card
buffer state, the own place in the call queue, the supply sums, sequence comparison, the stability and state of a weight. -/

namespace Sys2Proof

open Machine

/-! ## Call reasons (section 12.3) -/

/-- The bit of a call reason. -/
def Machine.CallReason.bit : CallReason → Nat
  | .bagMismatch => 0
  | .bagTimeout => 1
  | .unexpectedItem => 2
  | .itemRemoved => 3
  | .scaleFault => 4
  | .drawerForced => 5
  | .drawerJam => 6
  | .drawerOpenLong => 7
  | .paperOut => 8
  | .printerJam => 9
  | .journalFull => 10
  | .assist => 11

/-- The set that holds one reason. -/
def Machine.CallReason.set (r : CallReason) : Reasons := 1#12 <<< r.bit

/-- Whether a set holds a reason. -/
def Reasons.has (set : Reasons) (r : CallReason) : Bool := set.getLsbD r.bit

/-- The set with a reason added. -/
def Reasons.add (set : Reasons) (r : CallReason) : Reasons := set ||| r.set

/-- The set with a reason removed. -/
def Reasons.remove (set : Reasons) (r : CallReason) : Reasons := set &&& ~~~ r.set

/-- BAG_MISMATCH, BAG_TIMEOUT, UNEXPECTED_ITEM and ITEM_REMOVED. -/
def Machine.baggingReasons : Reasons := 0x00F#12

/-- The reasons that hold the sale (R8): the four bagging reasons and SCALE_FAULT. -/
def Machine.holdingReasons : Reasons := 0x01F#12

end Sys2Proof

namespace Sys2Proof.Machine

/-! ## The call queue (R61, R67) -/

/-- A station's entry in the call queue. -/
def Cluster.entryOf (c : Cluster) (n : StationNo) : Option CallEntry := c.queue.find? (fun e => e.station == n)

/-- The own entry. -/
def Cluster.ownEntry (c : Cluster) : Option CallEntry := c.entryOf c.number

/-- The reason set of the own entry, empty when there is none. -/
def Cluster.ownReasons (c : Cluster) : Reasons :=
  match c.ownEntry with
  | some e => e.reasons
  | none => 0

/-- The own place: 0 when there is no entry, 1 at the head (R67). -/
def Cluster.ownPlace (c : Cluster) : Nat :=
  match c.queue.findIdx? (fun e => e.station == c.number) with
  | some i => i + 1
  | none => 0

/-- The call light (R67). -/
def Cluster.light (c : Cluster) : CallLight :=
  match c.ownPlace with
  | 0 => .off
  | 1 => .steady
  | _ => .flash

/-- R8: the sale is held while the own entry holds one of the holding reasons. -/
def State.held (s : State) : Bool := s.cluster.ownReasons &&& holdingReasons != 0

/-! ## The supply table (R53) and the outgoing release (R57) -/

/-- The consumer record of a consumer. -/
def Cluster.consumer (c : Cluster) : Consumer → ConsumerRec
  | .printer => c.printer
  | .drawer => c.drawer

/-- The cluster unit with one consumer record replaced. -/
def Cluster.setConsumer (c : Cluster) (k : Consumer) (r : ConsumerRec) : Cluster :=
  match k with
  | .printer => { c with printer := r }
  | .drawer => { c with drawer := r }

/-- The sum of the own row. -/
def Cluster.ownSum (c : Cluster) : Nat := c.printer.holding + c.drawer.holding

/-- The table sum: every count in every row, the own row included (R53). -/
def Cluster.tableSum (c : Cluster) : Nat := c.ownSum + (c.peers.map (fun r => r.printer + r.drawer)).sum

/-- The row of another station. -/
def Cluster.peerRow (c : Cluster) (n : StationNo) : Option Row := c.peers.find? (fun r => r.station == n)

/-- R54: the grant of a claim against a budget and a table sum. -/
def grantOf (budget sum maximum : Nat) : Nat := min maximum (budget - sum)

/-- The units of the RELEASE pending for a consumer. -/
def Cluster.pendingRelease (c : Cluster) (k : Consumer) : Nat :=
  (c.out.map (fun f => match f.body with
    | .release k' u => if k' = k then u else 0
    | _ => 0)).sum

/-- R39, R57: a release of a consumer's whole holding has been asked for and is held for the bus. -/
def Cluster.heldRelease (c : Cluster) (k : Consumer) : Bool :=
  c.heldRequests.any (fun r => match r with | .release k' => k' == k | _ => false)

/-- R57, R138: a consumer counts as its holding the holding less the units of a RELEASE pending for it; of a holding whose release is held
for the bus it counts nothing. -/
def Cluster.countedHolding (c : Cluster) (k : Consumer) : Nat :=
  if c.heldRelease k then 0 else (c.consumer k).holding - c.pendingRelease k

/-- The print engine's holding (R138). -/
def State.printerHolding (s : State) : Nat := s.cluster.countedHolding .printer

/-- The lone budget (R51, R52). -/
def loneBudget : Nat := 6

/-! ## Authority and the card buffer (R107, R117) -/

/-- R117: authority is present while the window timer runs or the key is TURNED. -/
def Authority.present (a : Authority) : Bool := a.window.isSome || a.key == .turned

/-- R107: the card buffer's state. -/
def Card.bufferState (c : Card) : BufferState :=
  if c.held.isSome then .held
  else match c.phase with
    | .collecting => .swiping
    | .decoding => .decoding
    | .quiet => .empty
    | .skipping => .empty

/-! ## Weights (R74 to R76) -/

/-- R74: a quotient rounded to the nearest whole, halves up. -/
def roundHalfUp (n : Int) (d : Nat) : Int := (2 * n + d) / (2 * d)

/-- Grams to divisions, rounded half up (section 0.7.2). -/
def gramsToDivisions (grams division : Nat) : Nat := (2 * grams + division) / (2 * division)

/-- R76: the state that a gross settles. -/
def settledState (gross : Int) : ChannelState :=
  if 3009 < gross then .overload
  else if gross < -20 then .underload
  else .ready

/-- The third condition of R75: five weights, each within one division of the oldest. -/
def steadyWeights (ws : List Int) : Bool :=
  match ws with
  | [] => false
  | w :: rest => ws.length == 5 && rest.all (fun v => decide (w - 1 ≤ v) && decide (v ≤ w + 1))

/-- R75: stable is READY with a steady history of five weights. -/
def Channel.isStable (c : Channel) : Bool := c.state == .ready && steadyWeights c.weights

/-- R73: the filtered value, in sixteenths of a count, once eight net samples stand in the history. -/
def Channel.filtered (c : Channel) : Option Int := if c.samples.length = 8 then some c.samples.sum else none

/-- R74: the weight of a filtered value from a reference. -/
def Channel.weightFrom (c : Channel) (filtered reference : Int) : Int := roundHalfUp (filtered - reference) (16 * c.span)

/-- R74: the net in grams, in every state in which a weight stands. -/
def Channel.netGrams (c : Channel) : Option Int := c.net.map (fun n => n * 5)

/-- R84: the net in grams in READY, absent in every other state. -/
def Channel.displayedNet (c : Channel) : Option Int :=
  match c.state with
  | .ready => c.netGrams
  | _ => none

/-! ## Journal sequences (R170) and text (section 12.5) -/

/-- R170: a sequence is higher than another when their difference lies from 1 to 2,147,483,647. -/
def seqHigher (s n : Seq) : Bool := decide (1 ≤ (s - n).toNat) && decide ((s - n).toNat ≤ 2147483647)

/-- R170: the sequence after the last committed one; 0 gives 1 and 4,294,967,295 is followed by 1. -/
def nextSeq (s : Seq) : Seq := if s = BitVec.allOnes 32 then 1 else s + 1

/-- R170: the receipt number after the last; 999,999 is followed by 1. -/
def nextReceipt (r : Nat) : Nat := if 999999 ≤ r then 1 else r + 1

/-- A character of the printable set (section 12.5). -/
def printable (b : Byte) : Bool := decide (32 ≤ b.toNat) && decide (b.toNat ≤ 127)

/-- A text of the given lengths, all printable. -/
def textIn (lo hi : Nat) (t : Text) : Bool := decide (lo ≤ t.length) && decide (t.length ≤ hi) && t.all printable

/-- A digit code. -/
def isDigit (b : Byte) : Bool := decide (48 ≤ b.toNat) && decide (b.toNat ≤ 57)

/-! ## Tickets (R61) -/

/-- R61: ticket t is newer than n when t − n, modulo 65,536, lies between 1 and 32,767. -/
def ticketNewer (t n : Ticket) : Bool := decide (1 ≤ (t - n).toNat) && decide ((t - n).toNat ≤ 32767)

/-- R61: the newest ticket is the counter less one. -/
def Cluster.newest (c : Cluster) : Ticket := c.counter - 1

end Sys2Proof.Machine
end

