-- ==== Sys2Proof/Machine/Operands.lean ====
section
/-! DEFINITION. The forms in which the outside sees the part's operands (Chapter 12): the 16-bit check, the slots of a frame,
the bytes of messages, and the reading of a command's payload. -/

namespace Sys2Proof

open Machine

/-! ## Numbers and texts as bytes -/

/-- A number in n bytes, most significant byte first. -/
def bytesOf : Nat → Nat → List Byte
  | 0, _ => []
  | n + 1, v => BitVec.ofNat 8 (v / 256 ^ n) :: bytesOf n v

/-- The number that bytes hold, most significant byte first. -/
def natOf (bs : List Byte) : Nat := bs.foldl (fun a b => a * 256 + b.toNat) 0

/-- A signed number in n bytes, two's complement. -/
def intBytes (n : Nat) (v : Int) : List Byte := bytesOf n (v % (256 ^ n : Nat)).toNat

/-- A mark or flag: 1 byte (R189). -/
def flagByte (b : Bool) : List Byte := [if b then 1 else 0]

/-- A named value: its position (R189). -/
def codeByte (n : Nat) : List Byte := [BitVec.ofNat 8 n]

/-- A text: length byte, then codes (Chapter 12, conventions). -/
def textBytes (t : Text) : List Byte := BitVec.ofNat 8 t.length :: t

/-- A field that may be absent: 1 and the value, or 0 and the value's bytes all 0 (R189). -/
def optBytes {α : Type} (n : Nat) (f : α → List Byte) : Option α → List Byte
  | some v => 1 :: f v
  | none => 0 :: List.replicate n 0

/-- A named value that may hold NONE, its first position: 1 and the position, or 0 and 0 for NONE (R189). -/
def codeOrNone (n : Nat) : List Byte := flagByte (n != 0) ++ codeByte n

/-- A reason set in 2 bytes. -/
def reasonBytes (r : Reasons) : List Byte := bytesOf 2 r.toNat

/-! ## The 16-bit check (R190) -/

/-- One bit fed into the check register. -/
def crcBit (reg : BitVec 16) (bit : Bool) : BitVec 16 :=
  if reg.msb != bit then (reg <<< 1) ^^^ 0x1021#16 else reg <<< 1

/-- The check of a sequence of bits. -/
def crcBits (bits : List Bool) : BitVec 16 := bits.foldl crcBit 0xFFFF#16

/-- The bits of a number's low n bits, most significant first. -/
def bitsOf : Nat → Nat → List Bool
  | 0, _ => []
  | n + 1, v => v.testBit n :: bitsOf n v

/-- The number that bits hold, most significant first. -/
def natOfBits (bs : List Bool) : Nat := bs.foldl (fun a b => 2 * a + b.toNat) 0

/-- The bits of bytes, each most significant first. -/
def bitsOfBytes (bs : List Byte) : List Bool := bs.flatMap (fun b => bitsOf 8 b.toNat)

/-- The record check (R190). -/
def recordCheck (bs : List Byte) : BitVec 16 := crcBits (bitsOfBytes bs)

/-! ## Frames (R25, R28, R29, section 12.2) -/

/-- A frame's class (R29). -/
def FrameBody.cls : FrameBody → Nat
  | .expire _ => 1
  | .callClear _ => 2
  | .callRaise _ => 3
  | .release _ _ => 4
  | .claim _ _ _ => 5
  | .topup _ _ _ => 6
  | .roll _ => 7

/-- The payload byte of a consumer. -/
def Consumer.code : Consumer → Nat
  | .printer => 0
  | .drawer => 1

/-- The byte of a CALL CLEAR's cause. -/
def ClearCause.code : ClearCause → Nat
  | .withdrawn => 0
  | .attendant => 1

/-- A ROLL's flags byte: bit 7 JOIN, bit 6 CALL_OPEN, bit 5 ticket present. -/
def RollFields.flags (r : RollFields) : Nat :=
  (if r.join then 128 else 0) + (if r.callOpen then 64 else 0) + (if r.ticket.isSome then 32 else 0)

/-- The payload bytes of a frame (section 12.2). -/
def FrameBody.payload : FrameBody → List Byte
  | .expire t => bytesOf 1 t.toNat
  | .callClear c => bytesOf 1 c.code
  | .callRaise r => reasonBytes r
  | .release c u => bytesOf 1 c.code ++ bytesOf 1 u
  | .claim c lo hi => bytesOf 1 c.code ++ bytesOf 1 lo ++ bytesOf 1 hi
  | .topup c lo hi => bytesOf 1 c.code ++ bytesOf 1 lo ++ bytesOf 1 hi
  | .roll r => bytesOf 1 r.budget ++ bytesOf 1 r.printer ++ bytesOf 1 r.drawer ++ bytesOf 1 r.flags ++
      bytesOf 2 (match r.ticket with | some t => t.toNat | none => 0) ++ reasonBytes r.reasons

/-- The ranges of the payload fields (R29). -/
def FrameBody.inRange : FrameBody → Bool
  | .expire _ => true
  | .callClear _ => true
  | .callRaise r => r != 0
  | .release _ u => decide (1 ≤ u) && decide (u ≤ 60)
  | .claim _ lo hi => decide (1 ≤ lo) && decide (lo ≤ 60) && decide (lo ≤ hi) && decide (hi ≤ 60)
  | .topup _ lo hi => decide (1 ≤ lo) && decide (lo ≤ 60) && decide (lo ≤ hi) && decide (hi ≤ 60)
  | .roll r => decide (8 ≤ r.budget) && decide (r.budget ≤ 60) && decide (r.printer ≤ 60) && decide (r.drawer ≤ 60)

/-- The covered bits of a frame: arbitration, length and payload, before stuffing (R28, R190). -/
def Frame.coveredBits (f : Frame) : List Bool :=
  bitsOf 4 f.body.cls ++ bitsOf 4 f.sender.toNat ++ bitsOf 4 f.body.payload.length ++ bitsOfBytes f.body.payload

/-- The slots from the start slot to the last check slot, before stuffing; false is dominant, the binary 0. -/
def Frame.plainSlots (f : Frame) : List Bool :=
  false :: (f.coveredBits ++ bitsOf 16 (crcBits f.coveredBits).toNat)

/-- R25: after three equal slots one of the opposite level is sent, which is the first of the next run. `prev` and `run` are the
level and length of the run so far. -/
def stuff (prev : Bool) (run : Nat) : List Bool → List Bool
  | [] => []
  | b :: bs =>
    let n := if b = prev then run + 1 else 1
    if n = 3 then b :: (!b) :: stuff (!b) 1 bs else b :: stuff b n bs

/-- The slots of a frame as driven, from the start slot to the slot before the response field (R25). -/
def Frame.slots (f : Frame) : List Bool := stuff true 0 f.plainSlots

/-- A receiver's removal of the inserted slots: `none` is a stuff violation, or an inserted slot that never came (R25).
`skip` says that the next slot is an inserted one. -/
def destuff (prev : Bool) (run : Nat) (skip : Bool) : List Bool → Option (List Bool)
  | [] => if skip then none else some []
  | b :: bs =>
    if skip then
      if b = prev then none else destuff b 1 false bs
    else
      let n := if b = prev then run + 1 else 1
      (destuff b n (n == 3) bs).map (fun r => b :: r)

/-- The consumer of a payload byte; a byte other than 0 and 1 is out of range (section 12.2). -/
def consumerOf : Nat → Option Consumer
  | 0 => some .printer
  | 1 => some .drawer
  | _ => none

/-- A frame body from its class and payload bytes; `none` where the class, the length or a field is out of range (R28, R29). -/
def decodeFrameBody (cls : Nat) (p : List Byte) : Option FrameBody :=
  match cls, p.map BitVec.toNat with
  | 1, [t] => if t < 16 then some (.expire (BitVec.ofNat 4 t)) else none
  | 2, [0] => some (.callClear .withdrawn)
  | 2, [1] => some (.callClear .attendant)
  | 3, [h, l] => if h < 16 then some (.callRaise (BitVec.ofNat 12 (h * 256 + l))) else none
  | 4, [c, u] => (consumerOf c).map (fun k => .release k u)
  | 5, [c, lo, hi] => (consumerOf c).map (fun k => .claim k lo hi)
  | 6, [c, lo, hi] => (consumerOf c).map (fun k => .topup k lo hi)
  | 7, [b, pu, du, fl, th, tl, rh, rl] =>
    if fl % 32 = 0 && decide (rh < 16) && (fl.testBit 5 || decide (th * 256 + tl = 0)) then
      some (.roll { budget := b, printer := pu, drawer := du, join := fl.testBit 7, callOpen := fl.testBit 6,
                    ticket := if fl.testBit 5 then some (BitVec.ofNat 16 (th * 256 + tl)) else none,
                    reasons := BitVec.ofNat 12 (rh * 256 + rl) })
    else none
  | _, _ => none

/-- The bytes of a list of bits, eight at a time. -/
def bytesOfBits : Nat → List Bool → List Byte
  | 0, _ => []
  | n + 1, bs => BitVec.ofNat 8 (natOfBits (bs.take 8)) :: bytesOfBits n (bs.drop 8)

/-- R28: the frame that a receiver's copy decodes to, when the copy is good. -/
def decodeSlots (levels : List Bool) : Option Frame :=
  match destuff true 0 false levels with
  | none => none
  | some [] => none
  | some (start :: bits) =>
    let n := natOfBits ((bits.drop 8).take 4)
    let covered := bits.take (12 + 8 * n)
    let check := bits.drop (12 + 8 * n)
    if start || decide (8 < n) || decide (bits.length ≠ 28 + 8 * n) then none
    else if natOfBits check ≠ (crcBits covered).toNat then none
    else
      match decodeFrameBody (natOfBits (bits.take 4)) (bytesOfBits n (covered.drop 12)) with
      | none => none
      | some b => if b.inRange then some { sender := BitVec.ofNat 4 (natOfBits ((bits.drop 4).take 4)), body := b } else none

/-- R28, R34: what one receiver's copy decodes to when it is good, of a frame sent by another station. -/
def Reading.copy (sent : Frame) : Reading → Option Frame
  | .asSent => if sent.body.inRange then some sent else none
  | .slots l => decodeSlots l

/-- R25: whether a receiver finds a stuff violation: a fourth equal slot where an inserted one was due. The arguments are those of
`destuff`. -/
def stuffViolation (prev : Bool) (run : Nat) (skip : Bool) : List Bool → Bool
  | [] => false
  | b :: bs =>
    if skip then (if b = prev then true else stuffViolation b 1 false bs)
    else
      let n := if b = prev then run + 1 else 1
      stuffViolation b n (n == 3) bs

/-- R25: whether a receiver finds a stuff violation in what it reads of another station's frame. -/
def Reading.violates : Reading → Bool
  | .asSent => false
  | .slots l => stuffViolation true 0 false l

/-- The first position at which the slots read differ from the slots driven; a slot that was not read differs. -/
def firstDifference : List Bool → List Bool → Option Nat
  | [], _ => none
  | _ :: _, [] => some 0
  | x :: xs, y :: ys => if x = y then (firstDifference xs ys).map (· + 1) else some 0

/-- R31, R34: the position of the first slot at which a receiver reads the station's own frame otherwise than it is driven. -/
def Reading.differsAt (sent : Frame) : Reading → Option Nat
  | .asSent => none
  | .slots l => firstDifference sent.slots l

/-- R34: a receiver's copy of the station's own frame is good when every slot read, up to the last slot driven, equals the slot driven;
the last slot driven is at `last`, or is the frame's last where none is given. -/
def Reading.ownGood (sent : Frame) (last : Option Nat) (r : Reading) : Bool :=
  match r.differsAt sent, last with
  | none, _ => true
  | some _, none => false
  | some q, some p => decide (p < q)

/-- R28, R30: the slots driven up to the last slot of the arbitration field, the start slot and the slots inserted before that last one among
them. A slot inserted after it lies behind the field, where R31 applies. -/
def Frame.arbitrationSlots (f : Frame) : Nat := (stuff true 0 (f.plainSlots.take 8)).length + 1

/-- R30: the own frame loses arbitration: the first slot read otherwise lies in the arbitration field, and reads dominant where it is
driven recessive (log entry 52). -/
def Reading.losesArbitration (sent : Frame) : Reading → Bool
  | .asSent => false
  | .slots l =>
    match firstDifference sent.slots l with
    | some p => decide (p < sent.arbitrationSlots) && l[p]? == some false
    | none => false

/-! ## Positions of named values (R189) -/

/-- Position of a sale state (R1). -/
def Machine.SaleState.code : SaleState → Nat
  | .idle => 0 | .opened => 1 | .tender => 2 | .settled => 3 | .voided => 4
/-- Position of a commit status (R2, R19). -/
def Machine.CommitStatus.code : CommitStatus → Nat
  | .absent => 0 | .pending => 1 | .committed => 2 | .failed => 3
/-- Position of a print status (R2, R20). -/
def Machine.PrintStatus.code : PrintStatus → Nat
  | .absent => 0 | .running => 1 | .done => 2 | .doneUncut => 3
/-- Value of a bag status (section 12.4). -/
def Machine.BagStatus.code : BagStatus → Nat
  | .skipped => 0 | .pending => 1 | .bagged => 2 | .accepted => 3 | .removalPending => 4 | .removed => 5
/-- Position of a job kind (R138). -/
def Machine.JobKind.code : JobKind → Nat
  | .sale => 0 | .voidSale => 1 | .copy => 2
/-- Position of a station state (R44). -/
def Machine.StationState.code : StationState → Nat
  | .off => 0 | .listen => 1 | .joining => 2 | .member => 3 | .lone => 4
/-- Position of a LONE cause (R44). -/
def Machine.LoneCause.code : LoneCause → Nat
  | .line => 0 | .alone => 1 | .duplicate => 2 | .budget => 3
/-- Position of a line diagnosis mode (R34). -/
def Machine.LineMode.code : LineMode → Nat
  | .full => 0 | .aOnly => 1 | .bOnly => 2
/-- Position of a LINE MODE cause (R36). -/
def Machine.LineModeCause.code : LineModeCause → Nat
  | .count => 0 | .evaluation => 1 | .listen => 2
/-- The byte of the call light (section 12.1). -/
def Machine.CallLight.code : CallLight → Nat
  | .off => 0 | .steady => 1 | .flash => 2
/-- Position of a channel state (R84). -/
def Machine.ChannelState.code : ChannelState → Nat
  | .off => 0 | .warmup => 1 | .noZero => 2 | .ready => 3 | .overload => 4 | .underload => 5 | .fault => 6
/-- Position of a capture state (R85), NONE first. -/
def captureCode : Option CapturePhase → Nat
  | none => 0 | some .waitZero => 1 | some .waitStable => 2
/-- Position of a capture outcome (R91). -/
def Machine.CaptureOutcome.code : CaptureOutcome → Nat
  | .captured => 0 | .timeout => 1 | .cancelled => 2 | .fault => 3 | .voided => 4
/-- Position of a card buffer state (section 6.2). -/
def Machine.BufferState.code : BufferState → Nat
  | .empty => 0 | .swiping => 1 | .decoding => 2 | .held => 3
/-- Position of a card direction (R108). -/
def Machine.Direction.code : Direction → Nat
  | .forward => 0 | .reverse => 1
/-- Position of a card class (R111). -/
def Machine.CardClass.code : CardClass → Nat
  | .attendant => 0 | .customer => 1 | .unreadable => 2
/-- Position of a key state (R117). -/
def Machine.KeyState.code : KeyState → Nat
  | .home => 0 | .turned => 1 | .spent => 2
/-- Value of an authority source (section 12.4). -/
def Machine.AuthSource.code : AuthSource → Nat
  | .card => 0 | .key => 1
/-- Position of a clear attempt's result (R120). -/
def Machine.ClearResult.code : ClearResult → Nat
  | .noCall => 0 | .cleared => 1 | .notAccepted => 2 | .journalBusy => 3
/-- Position of a level (section 7.1). -/
def Level.code : Level → Nat
  | .first => 0 | .second => 1
/-- Position of a sense input (section 7.1). -/
def SenseInput.code : SenseInput → Nat
  | .drawer => 0 | .paper => 1 | .cover => 2 | .nearEnd => 3 | .cutterHome => 4 | .key => 5 | .spare1 => 6 | .spare2 => 7
/-- Position of a drawer state (R124). -/
def Machine.DrawerState.code : DrawerState → Nat
  | .closed => 0 | .claiming => 1 | .kicking => 2 | .confirm => 3 | .retryGap => 4 | .opened => 5 | .forced => 6 | .jammed => 7
/-- Position of a jam cause (R124). -/
def Machine.JamCause.code : JamCause → Nat
  | .supply => 0 | .noOpen => 1
/-- Position of a tone (R135). -/
def Machine.ToneName.code : ToneName → Nat
  | .alarm => 0 | .alert => 1 | .double => 2 | .chirp => 3
/-- Position of an engine state (R138). -/
def Machine.EngineState.code : EngineState → Nat
  | .idle => 0 | .claiming => 1 | .printing => 2 | .pausedMedia => 3 | .pausedHot => 4 | .waitCommit => 5 | .feeding => 6
  | .cutting => 7
/-- Position of a job outcome (R153). -/
def Machine.JobOutcome.code : JobOutcome → Nat
  | .done => 0 | .doneUncut => 1 | .abandoned => 2
/-- Position of a copy check (R155). -/
def Machine.CopyCheck.code : CopyCheck → Nat
  | .good => 0 | .failed => 1 | .unknown => 2
/-- Position of an identity state (R168). -/
def Machine.Identity.code : Identity → Nat
  | .blank => 0 | .written _ _ => 1 | .damaged => 2
/-- Position of a journal level (R167). -/
def Machine.JournalLevel.code : JournalLevel → Nat
  | .normal => 0 | .nearFull => 1 | .full => 2 | .fault => 3
/-- Position of a record kind (R169). -/
def Machine.RecordKind.code : RecordKind → Nat
  | .sale => 0 | .voidSale => 1 | .noSale => 2 | .call => 3 | .mark => 4 | .pad => 5
/-- Position of a failed operation (R166). -/
def Machine.FailedOp.code : FailedOp → Nat
  | .program => 0 | .erase => 1
/-- Position of a part state (R184). -/
def Machine.PartState.code : PartState → Nat
  | .starting => 0 | .unconfigured => 1 | .running => 2
/-- Position of a refusal reason (R182). -/
def Machine.RefusalReason.code : RefusalReason → Nat
  | .badState => 0 | .busy => 1 | .held => 2 | .noConfig => 3 | .noIdentity => 4 | .range => 5 | .full => 6 | .journalFull => 7
  | .journalFault => 8 | .journalBusy => 9 | .noAuthority => 10 | .drawerOpen => 11 | .tendered => 12 | .bagPending => 13
  | .noCard => 14 | .noRecord => 15 | .locked => 16 | .unknown => 17
/-- Position of a track status, in the order R108 and R109 name them (log entry 24). -/
def Machine.TrackStatus.code : TrackStatus → Nat
  | .absent => 0 | .noStart => 1 | .noEnd => 2 | .tooLong => 3 | .parity _ => 4 | .check => 5 | .good => 6

/-- R180: the link rate that the rate straps give, in bits per second. -/
def Straps.rate (p : Straps) : Nat :=
  match p.rateFirst, p.rateSecond with
  | false, false => 19200
  | false, true => 57600
  | true, false => 115200
  | true, true => 230400

/-! ## Messages (section 12.1) -/

/-- R188: the CHECK byte, the two's complement of the sum of LENGTH and body. -/
def checkByte (body : List Byte) : Byte := -(BitVec.ofNat 8 body.length + body.foldl (· + ·) 0)

/-- A message: SYNC, LENGTH, body, CHECK. -/
def frameMessage (body : List Byte) : List Byte := 0x7E :: BitVec.ofNat 8 body.length :: (body ++ [checkByte body])

/-- R180: a byte as a character of the link: odd parity, a stop bit of 1. -/
def sentCharacter (b : Byte) : LinkChar :=
  { data := b, parity := ((bitsOf 8 b.toNat).filter id).length % 2 == 0, stop := true }

/-- R180: the bits of a character in the order sent: the start bit, 8 data bits least significant first, the parity bit, the stop bit. -/
def LinkChar.bits (c : LinkChar) : List Bool := false :: ((bitsOf 8 c.data.toNat).reverse ++ [c.parity, c.stop])

/-- R180, R183: the characters of the message with a body. -/
def messageChars (body : List Byte) : List LinkChar := (frameMessage body).map sentCharacter

/-- R180: the bits on the link of the message being sent. -/
def Machine.Sending.bits (m : Sending) : List Bool := m.chars.flatMap LinkChar.bits

/-- The fields of a sale command's DONE (R9). -/
def Machine.SaleReport.bytes (r : SaleReport) : List Byte :=
  codeByte r.state.code ++ bytesOf 4 r.total ++ bytesOf 4 r.due ++ optBytes 4 (bytesOf 4) r.change

/-- The identity state, with the store number and lane label when WRITTEN (R167). -/
def Machine.Identity.bytes : Identity → List Byte
  | .written store label => codeByte 1 ++ optBytes 2 (bytesOf 2) (some store) ++ optBytes 1 textBytes (some label)
  | i => codeByte i.code ++ optBytes 2 (bytesOf 2) none ++ optBytes 1 textBytes none

/-- The levels of the sense inputs, in the order of section 7.1. -/
def SenseLevels.list (l : SenseLevels) : List Level :=
  [l.drawer, l.paper, l.cover, l.nearEnd, l.cutterHome, l.key, l.spare1, l.spare2]

/-- R92: the zero-return interlock is SET or RELEASED; `true` is SET. -/
def interlockByte (set : Bool) : List Byte := codeByte (if set then 0 else 1)

/-- The snapshot of READ STATUS, in the order of R186. Authority present is 1 and absent 0, and the net takes 4 bytes, as in
the tare replies (log entry 24). -/
def Machine.StatusReport.bytes (r : StatusReport) : List Byte :=
  codeByte r.part.code ++ bytesOf 1 r.straps.station.toNat ++ bytesOf 3 r.straps.rate ++ flagByte r.lost ++
  codeByte r.saleState.code ++ bytesOf 4 r.total ++ bytesOf 4 r.due ++ bytesOf 1 r.lineCount ++ bytesOf 1 r.tenderCount ++
  codeOrNone r.commit.code ++ codeOrNone r.print.code ++
  codeByte r.station.code ++ optBytes 1 (fun c => codeByte c.code) r.loneCause ++ codeByte r.mode.code ++
  bytesOf 1 r.printerUnits ++ bytesOf 1 r.drawerUnits ++ reasonBytes r.wanted ++ bytesOf 1 r.place ++
  optBytes 2 (fun t : Ticket => bytesOf 2 t.toNat) r.ticket ++ codeByte r.light.code ++
  codeByte r.produce.code ++ codeByte r.bagging.code ++ optBytes 4 (intBytes 4) r.net ++ optBytes 2 (bytesOf 2) r.tare ++
  codeOrNone (captureCode r.capture) ++ interlockByte r.interlock ++
  codeByte r.buffer.code ++ flagByte r.overrun ++ flagByte r.authority ++ bytesOf 1 r.windowSeconds ++ codeByte r.key.code ++
  r.levels.list.flatMap (fun l => codeByte l.code) ++ r.marks.flatMap flagByte ++
  codeByte r.drawer.code ++ optBytes 1 (fun c => codeByte c.code) r.jam ++ bytesOf 1 r.openSeconds ++ flagByte r.noSale ++
  codeByte r.engine.code ++ optBytes 1 (fun k => codeByte k.code) r.job ++ bytesOf 1 r.holding ++
  optBytes 1 (intBytes 1) r.headTemp ++ flagByte r.paperOut ++ flagByte r.printerJam ++ codeByte r.nearEnd.code ++
  bytesOf 1 r.waitingAppends ++ optBytes 1 (fun k => codeByte k.code) r.takenKind ++
  codeByte r.level.code ++ bytesOf 2 r.available ++ bytesOf 4 r.lastSeq.toNat ++ bytesOf 3 r.lastReceipt ++
  bytesOf 4 r.mark.toNat ++ r.identity.bytes

/-- The fields of a DONE or ACCEPTED reply, as bytes. The net of SET TARE and CLEAR TARE takes 4: in OVERLOAD and UNDERLOAD it is bounded
by the calibration alone (R74). So do these conventions: the gross of SET ZERO, always 0 g, takes 2 signed bytes; the tone of PLAY TONE stands
behind a presence byte, though one always plays after that request; LANE RESET sends three flags, for a sale, a capture and a print job (log
entry 24). -/
def Machine.ReplyFields.bytes : ReplyFields → List Byte
  | .nothing => []
  | .sale r => r.bytes
  | .line r i a => r.bytes ++ bytesOf 1 i ++ bytesOf 3 a
  | .card r o => r.bytes ++ flagByte o
  | .capture p => codeByte (captureCode (some p))
  | .gross g => intBytes 2 g
  | .tare t n => bytesOf 2 t ++ intBytes 4 n
  | .net n => optBytes 4 (intBytes 4) n
  | .overrun m => flagByte m
  | .wanted r => reasonBytes r
  | .toneResult p t => codeByte (if p then 0 else 1) ++ optBytes 1 (fun n => codeByte n.code) t
  | .toneStopped t => optBytes 1 (fun n => codeByte n.code) t
  | .copySource q => bytesOf 4 q.toNat
  | .record q o n k bs => bytesOf 4 q.toNat ++ bytesOf 2 o ++ bytesOf 2 n ++ codeByte k.code ++ bytesOf 1 bs.length ++ bs
  | .laneReset b x y z => codeByte b.code ++ flagByte x ++ flagByte y ++ flagByte z
  | .status r => r.bytes

/-- The body of a reply message: KIND, TAG, reply byte, then the fields or the refusal reason (section 12.1). -/
def Machine.Reply.body' (r : Reply) : List Byte :=
  r.kind :: r.tag :: (match r.body with
    | .done f => 0 :: f.bytes
    | .accepted f => 1 :: f.bytes
    | .refused e => 2 :: codeByte e.code)

/-- A track status with its PARITY index, 2 bytes, as CARD READ lays it out (section 12.1). -/
def Machine.TrackStatus.bytes (t : TrackStatus) : List Byte :=
  codeByte t.code ++ bytesOf 1 (match t with | .parity i => i | _ => 0)

/-- A track status alone, 1 byte, and the index that PARITY gives, which may be absent (R114, R189). -/
def Machine.TrackStatus.withIndex (t : TrackStatus) : List Byte :=
  codeByte t.code ++ optBytes 1 (bytesOf 1) (match t with | .parity i => some i | _ => none)

/-- Track values given as codes: v + 32 on track A, v + 48 on track B (section 12.5). -/
def trackCodes (track : Track) (vs : List Byte) : Text :=
  match track with
  | .a => vs.map (· + 32)
  | .b => vs.map (· + 48)

/-- The payload of a WEIGHT notice (section 12.1). -/
def Machine.WeightReport.bytes (r : WeightReport) : List Byte :=
  codeByte r.produce.code ++
  bytesOf 1 ((if r.stable then 1 else 0) + (if r.net.isSome then 2 else 0) + (if r.tare.isSome then 4 else 0)) ++
  intBytes 2 (r.net.getD 0) ++ bytesOf 2 (r.tare.getD 0) ++ codeByte r.bagging.code

/-- Position of a BAGGING result, in the order R103 names them (log entry 24). -/
def Machine.BaggingResult.code : BaggingResult → Nat
  | .atBaseline => 0 | .matched _ => 1 | .mismatch _ => 2 | .unexpected _ => 3 | .removed _ => 4 | .overdue _ => 5
  | .accepted _ => 6 | .clearRefused _ => 7

/-- R103: the indices of the lines that left the list, carried by MATCHED and ACCEPTED. -/
def Machine.BaggingResult.left : BaggingResult → Option (List Nat)
  | .matched ls => some ls
  | .accepted ls => some ls
  | _ => none

/-- R103: the delta, carried by MISMATCH, UNEXPECTED and REMOVED. -/
def Machine.BaggingResult.delta : BaggingResult → Option Int
  | .mismatch d => some d
  | .unexpected d => some d
  | .removed d => some d
  | _ => none

/-- R103: the line index of the overdue entry. -/
def Machine.BaggingResult.overdueLine : BaggingResult → Option Nat
  | .overdue l => some l
  | _ => none

/-- R103: the bagging channel state of BAG CLEAR REFUSED. -/
def Machine.BaggingResult.channel : BaggingResult → Option ChannelState
  | .clearRefused c => some c
  | _ => none

/-- The result of a BAGGING notice, then the fields that R103 gives to some results only, each behind its presence byte (R189), in the order in which
R103 first names them. Absent indices hold a count of 0. -/
def Machine.BaggingResult.bytes (r : BaggingResult) : List Byte :=
  codeByte r.code ++ optBytes 1 (fun ls : List Nat => bytesOf 1 ls.length ++ ls.flatMap (bytesOf 1)) r.left ++
  optBytes 2 (intBytes 2) r.delta ++ optBytes 1 (bytesOf 1) r.overdueLine ++ optBytes 1 (fun c => codeByte c.code) r.channel

/-- The forms of the JOURNAL notice, each led by a byte that tells its form (log entry 23). -/
def Machine.JournalReport.bytes : JournalReport → List Byte
  | .level b a n => codeByte 0 ++ codeByte b.code ++ codeByte a.code ++ bytesOf 2 n
  | .fault b n op k => codeByte 1 ++ codeByte b.code ++ codeByte JournalLevel.fault.code ++ bytesOf 2 n ++ codeByte op.code ++
      bytesOf 2 k
  | .identityWritten => codeByte 2
  | .exportMark m => codeByte 3 ++ bytesOf 4 m.toNat
  | .scanEnd l i q m t d => codeByte 4 ++ codeByte l.code ++ codeByte i.code ++ bytesOf 4 q.toNat ++ bytesOf 4 m.toNat ++
      bytesOf 2 t ++ bytesOf 2 d

/-- The errors of a LINK ERROR notice, one flag each in the order of R181 (log entry 24). -/
def Machine.LinkErrors.bytes (e : LinkErrors) : List Byte :=
  flagByte e.parity ++ flagByte e.framing ++ flagByte e.overrun ++ flagByte e.length ++ flagByte e.gap ++ flagByte e.check

/-- The KIND of a notice (R189). -/
def Machine.Notice.kind : Notice → Byte
  | .call .. => 0x40
  | .linkError .. => 0x41
  | .cardRead .. => 0x42
  | .cardError .. => 0x43
  | .cardOverrun .. => 0x44
  | .capture .. => 0x45
  | .bagging .. => 0x46
  | .drawer .. => 0x47
  | .attendant .. => 0x48
  | .authority .. => 0x49
  | .saleComplete .. => 0x4A
  | .print .. => 0x4B
  | .nearEnd .. => 0x4C
  | .reprint .. => 0x4D
  | .journal .. => 0x4E
  | .input .. => 0x4F
  | .station .. => 0x50
  | .lineMode .. => 0x51
  | .tableConflict .. => 0x52
  | .part .. => 0x53
  | .weight .. => 0x54

/-- The priority of a notice (R183). -/
def Machine.Notice.priority : Notice → Nat
  | .call .. => 3
  | .linkError .. => 3
  | .cardRead .. => 2
  | .cardError .. => 2
  | .cardOverrun .. => 2
  | .capture .. => 2
  | .bagging .. => 2
  | .drawer .. => 2
  | .attendant .. => 2
  | .authority .. => 2
  | .saleComplete .. => 2
  | .print .. => 1
  | .nearEnd .. => 1
  | .reprint .. => 1
  | .journal .. => 1
  | .input .. => 1
  | .station .. => 1
  | .lineMode .. => 1
  | .tableConflict .. => 1
  | .part .. => 1
  | .weight .. => 0

/-- R113: a CARD READ notice reads its characters and account number from the held record as it is sent, provided that record is
still the one whose decoding placed it; otherwise it carries the mark WIPED in their place. -/
def cardReadBytes (held : Option CardRecord) (id : Nat) (d : Direction) (a b : TrackStatus) : List Byte :=
  codeByte d.code ++ a.bytes ++ b.bytes ++
  (match held with
   | some r =>
     if r.id = id then
       flagByte false ++ textBytes (trackCodes .a r.charsA) ++ textBytes (trackCodes .b r.charsB) ++
         textBytes (match r.account with | some x => trackCodes .b x | none => [])
     else flagByte true ++ [0, 0, 0]
   | none => flagByte true ++ [0, 0, 0])

/-- What a CAPTURE notice says of its line, each field absent but for CAPTURED (R91). -/
def captureBytes (l : Option CapturedLine) : List Byte :=
  optBytes 1 (bytesOf 1) (l.map (fun x => x.index)) ++ optBytes 2 (bytesOf 2) (l.map (fun x => x.grams)) ++
  optBytes 3 (bytesOf 3) (l.map (fun x => x.price)) ++ optBytes 3 (bytesOf 3) (l.map (fun x => x.amount)) ++
  optBytes 1 (fun b : BagStatus => codeByte b.code) (l.map (fun x => x.bag))

/-- What a PART notice says beside the part state, each field absent at entry to RUNNING (R184). -/
def partBytes (x : Option (Straps × Identity)) : List Byte :=
  optBytes 1 (fun p : Straps => bytesOf 1 p.station.toNat) (x.map (fun y => y.1)) ++
  optBytes 3 (fun p : Straps => bytesOf 3 p.rate) (x.map (fun y => y.1)) ++
  optBytes 1 (fun i : Identity => codeByte i.code) (x.map (fun y => y.2))

/-- The payload of a notice, sent while `held` is the card decoder's held record. The last four digits of an ATTENDANT notice are a text of
four codes behind a presence byte, absent for KEY. SALE COMPLETE says SETTLED or VOIDED as 0 or 1, the positions in R21, where it is one of two, and
not by R1's list; its statuses, never NONE there, have no presence byte. The job kind of PRINT, absent in no notice, stands behind one. The number of LINK
ERROR takes 2 bytes, and a greater count wraps (log entry 24). -/
def Machine.Notice.payload (held : Option CardRecord) : Notice → List Byte
  | .call p n t r l => bytesOf 1 p ++ bytesOf 1 n ++ optBytes 2 (fun t : Ticket => bytesOf 2 t.toNat) t ++ reasonBytes r ++
      codeByte l.code
  | .linkError e n => e.bytes ++ bytesOf 2 n
  | .cardRead id d a b => cardReadBytes held id d a b
  | .cardError d a b => codeByte d.code ++ a.withIndex ++ b.withIndex
  | .cardOverrun c a b => codeByte c.code ++ codeByte a.code ++ codeByte b.code
  | .capture o l t => codeByte o.code ++ captureBytes l ++ bytesOf 4 t
  | .bagging r n => r.bytes ++ bytesOf 1 n
  | .drawer b a j n h => codeByte b.code ++ codeByte a.code ++ optBytes 1 (fun c => codeByte c.code) j ++ bytesOf 1 n ++
      flagByte h
  | .attendant s d r => codeByte s.code ++ optBytes 1 textBytes (match s with | .card => some d | .key => none) ++
      codeByte r.code
  | .authority p w k => flagByte p ++ flagByte w ++ codeByte k.code
  | .saleComplete r st rc q c p => bytesOf 4 r.toNat ++ codeByte (if st = .voided then 1 else 0) ++
      optBytes 3 (bytesOf 3) rc ++ optBytes 4 (fun q : Seq => bytesOf 4 q.toNat) q ++ codeByte c.code ++ codeByte p.code
  | .print b a k h o => codeByte b.code ++ codeByte a.code ++ optBytes 1 (fun k => codeByte k.code) k ++ bytesOf 1 h ++
      optBytes 1 (fun o => codeByte o.code) o
  | .nearEnd l => codeByte l.code
  | .reprint q r c o => bytesOf 4 q.toNat ++ optBytes 3 (bytesOf 3) r ++ codeByte c.code ++ codeByte o.code
  | .journal r => r.bytes
  | .input i l => codeByte i.code ++ codeByte l.code
  | .station b a c n => codeByte b.code ++ codeByte a.code ++ optBytes 1 (fun c => codeByte c.code) c ++ bytesOf 1 n
  | .lineMode b a c => codeByte b.code ++ codeByte a.code ++ codeByte c.code
  | .tableConflict n f b r t => bytesOf 1 n.toNat ++ codeByte f.code ++ bytesOf 1 b ++ optBytes 1 (bytesOf 1) r ++ bytesOf 1 t
  | .part p x => codeByte p.code ++ partBytes x
  | .weight r => r.bytes

/-- The body of a notice message: KIND, TAG 0, payload (R183). -/
def Machine.Notice.body (held : Option CardRecord) (n : Notice) : List Byte := n.kind :: 0 :: n.payload held

/-! ## The payload of a command (section 12.1, R189) -/

/-- The KIND of a command (section 11.5). -/
def HostCommand.kind : HostCommand → Byte
  | .openSale .. => 0x01
  | .addLine .. => 0x02
  | .voidLine .. => 0x03
  | .total => 0x04
  | .tenderCash .. => 0x05
  | .tenderCard .. => 0x06
  | .voidSale => 0x07
  | .weighItem .. => 0x08
  | .cancelWeigh => 0x09
  | .restartScale => 0x0A
  | .setZero => 0x0B
  | .setTare .. => 0x0C
  | .clearTare => 0x0D
  | .discardCard => 0x0E
  | .raiseAssist => 0x0F
  | .withdrawAssist => 0x10
  | .noSale => 0x11
  | .retryDrawer => 0x12
  | .playTone .. => 0x13
  | .stopTone => 0x14
  | .reprintLast => 0x15
  | .writeIdentity .. => 0x16
  | .readJournal .. => 0x17
  | .confirmExport .. => 0x18
  | .configure .. => 0x19
  | .readStatus => 0x1A
  | .laneReset => 0x1B

/-- Texts with a leading count (R189). -/
def textsBytes (ts : List Text) : List Byte := bytesOf 1 ts.length ++ ts.flatMap textBytes

/-- The payload bytes of a command. -/
def HostCommand.payload : HostCommand → List Byte
  | .openSale r t => bytesOf 4 r.toNat ++ bytesOf 4 t.toNat
  | .addLine f => textBytes f.desc ++ bytesOf 2 f.quantity ++ bytesOf 3 f.price ++
      bytesOf 1 ((if f.expected.isSome then 1 else 0) + (if f.noBag then 2 else 0)) ++
      bytesOf 2 (match f.expected with | some (g, _) => g | none => 0) ++
      bytesOf 2 (match f.expected with | some (_, t) => t | none => 0)
  | .voidLine i => bytesOf 1 i
  | .total => []
  | .tenderCash a => bytesOf 4 a
  | .tenderCard a t => bytesOf 4 a ++ textBytes t
  | .voidSale => []
  | .weighItem d p b => textBytes d ++ bytesOf 3 p ++ bytesOf 1 b
  | .cancelWeigh => []
  | .restartScale => []
  | .setZero => []
  | .setTare g => optBytes 2 (bytesOf 2) g
  | .clearTare => []
  | .discardCard => []
  | .raiseAssist => []
  | .withdrawAssist => []
  | .noSale => []
  | .retryDrawer => []
  | .playTone t => bytesOf 1 t
  | .stopTone => []
  | .reprintLast => []
  | .writeIdentity n l => bytesOf 2 n ++ textBytes l
  | .readJournal q o => bytesOf 4 q.toNat ++ bytesOf 2 o
  | .confirmExport q => bytesOf 4 q.toNat
  | .configure v => bytesOf 1 v.budget ++ bytesOf 1 v.headMax ++ bytesOf 1 v.period ++ intBytes 3 v.produceZero ++
      bytesOf 2 v.produceSpan ++ intBytes 3 v.baggingZero ++ bytesOf 2 v.baggingSpan ++ bytesOf 1 v.kickWidth ++
      textsBytes v.prefixes ++ textsBytes v.headers ++ bytesOf 1 v.decimals
  | .readStatus => []
  | .laneReset => []

/-- The body of a command's message: KIND, TAG, payload. -/
def HostCommand.body (c : HostCommand) (tag : Byte) : List Byte := c.kind :: tag :: c.payload

/-- n bytes and the rest. -/
def takeBytes (n : Nat) (bs : List Byte) : Option (List Byte × List Byte) :=
  if n ≤ bs.length then some (bs.take n, bs.drop n) else none

/-- A number of n bytes and the rest. -/
def takeNat (n : Nat) (bs : List Byte) : Option (Nat × List Byte) := (takeBytes n bs).map (fun x => (natOf x.1, x.2))

/-- A signed number of n bytes and the rest. -/
def takeInt (n : Nat) (bs : List Byte) : Option (Int × List Byte) :=
  (takeNat n bs).map (fun x => (if 2 * x.1 < 256 ^ n then (x.1 : Int) else (x.1 : Int) - (256 ^ n : Nat), x.2))

/-- A text and the rest. -/
def takeText : List Byte → Option (Text × List Byte)
  | [] => none
  | n :: bs => takeBytes n.toNat bs

/-- As many texts as are counted, and the rest. -/
def takeTexts : Nat → List Byte → Option (List Text × List Byte)
  | 0, bs => some ([], bs)
  | n + 1, bs => do
    let (t, bs) ← takeText bs
    let (ts, bs) ← takeTexts n bs
    pure (t :: ts, bs)

/-- A value once no byte is left. -/
def ended {α : Type} (v : α) : List Byte → Option α
  | [] => some v
  | _ :: _ => none

/-- The payload of ADD LINE: flag bit 0 says that the expected weight is given, bit 1 is the "no bag" mark; other flag bits
are ignored (log entry 31). -/
def decodeAddLine (p : List Byte) : Option HostCommand := do
  let (d, p) ← takeText p
  let (q, p) ← takeNat 2 p
  let (u, p) ← takeNat 3 p
  let (f, p) ← takeNat 1 p
  let (g, p) ← takeNat 2 p
  let (t, p) ← takeNat 2 p
  ended (.addLine { desc := d, quantity := q, price := u, expected := if f.testBit 0 then some (g, t) else none,
                    noBag := f.testBit 1 }) p

/-- The payload of CONFIGURE, in the order of R185. -/
def decodeConfigure (p : List Byte) : Option HostCommand := do
  let (b, p) ← takeNat 1 p
  let (h, p) ← takeNat 1 p
  let (e, p) ← takeNat 1 p
  let (pz, p) ← takeInt 3 p
  let (ps, p) ← takeNat 2 p
  let (bz, p) ← takeInt 3 p
  let (bs, p) ← takeNat 2 p
  let (k, p) ← takeNat 1 p
  let (n, p) ← takeNat 1 p
  let (xs, p) ← takeTexts n p
  let (m, p) ← takeNat 1 p
  let (hs, p) ← takeTexts m p
  let (d, p) ← takeNat 1 p
  ended (.configure { budget := b, headMax := h, period := e, produceZero := pz, produceSpan := ps, baggingZero := bz,
                      baggingSpan := bs, kickWidth := k, prefixes := xs, headers := hs, decimals := d }) p

/-- A command from its KIND and payload, when the payload's length fits (R182, R189). A presence byte of SET TARE other than 0
and 1 is read as a preset of 0 g, which is out of range; after a presence byte of 0 its grams are ignored, whatever they hold (log entry 31). -/
def decodePayload (kind : Nat) (p : List Byte) : Option HostCommand :=
  match kind with
  | 0x01 => do
    let (r, p) ← takeNat 4 p
    let (t, p) ← takeNat 4 p
    ended (.openSale (BitVec.ofNat 32 r) (BitVec.ofNat 32 t)) p
  | 0x02 => decodeAddLine p
  | 0x03 => do
    let (i, p) ← takeNat 1 p
    ended (.voidLine i) p
  | 0x04 => ended .total p
  | 0x05 => do
    let (a, p) ← takeNat 4 p
    ended (.tenderCash a) p
  | 0x06 => do
    let (a, p) ← takeNat 4 p
    let (t, p) ← takeText p
    ended (.tenderCard a t) p
  | 0x07 => ended .voidSale p
  | 0x08 => do
    let (d, p) ← takeText p
    let (u, p) ← takeNat 3 p
    let (b, p) ← takeNat 1 p
    ended (.weighItem d u b) p
  | 0x09 => ended .cancelWeigh p
  | 0x0A => ended .restartScale p
  | 0x0B => ended .setZero p
  | 0x0C => do
    let (f, p) ← takeNat 1 p
    let (g, p) ← takeNat 2 p
    ended (.setTare (if f = 0 then none else if f = 1 then some g else some 0)) p
  | 0x0D => ended .clearTare p
  | 0x0E => ended .discardCard p
  | 0x0F => ended .raiseAssist p
  | 0x10 => ended .withdrawAssist p
  | 0x11 => ended .noSale p
  | 0x12 => ended .retryDrawer p
  | 0x13 => do
    let (t, p) ← takeNat 1 p
    ended (.playTone t) p
  | 0x14 => ended .stopTone p
  | 0x15 => ended .reprintLast p
  | 0x16 => do
    let (n, p) ← takeNat 2 p
    let (l, p) ← takeText p
    ended (.writeIdentity n l) p
  | 0x17 => do
    let (q, p) ← takeNat 4 p
    let (o, p) ← takeNat 2 p
    ended (.readJournal (BitVec.ofNat 32 q) o) p
  | 0x18 => do
    let (q, p) ← takeNat 4 p
    ended (.confirmExport (BitVec.ofNat 32 q)) p
  | 0x19 => decodeConfigure p
  | 0x1A => ended .readStatus p
  | 0x1B => ended .laneReset p
  | _ => none

/-- What the lane link reads in the body of a good message (R182, R188). -/
inductive Handed where
  | command (tag : Byte) (c : HostCommand)
  | refused (kind tag : Byte) (r : RefusalReason)
  deriving DecidableEq, Repr

/-- R182, R188: a body of one byte has no TAG and is refused RANGE with TAG 0; a KIND that names no command is refused UNKNOWN;
a body whose length does not fit its KIND is refused RANGE. -/
def readBody : List Byte → Handed
  | [] => .refused 0 0 .range
  | [k] => .refused k 0 .range
  | k :: tag :: p =>
    if 1 ≤ k.toNat ∧ k.toNat ≤ 27 then
      match decodePayload k.toNat p with
      | some c => .command tag c
      | none => .refused k tag .range
    else .refused k tag .unknown

end Sys2Proof
end

