-- ==== Sys2Proof/Machine/Ops.lean ====
section
/-! DEFINITION. The named operations that the blocks share: one update for each field of State, the notice queue, the reply list,
the transmitter, and the journal array as a canonical list of cells. -/

namespace Sys2Proof.Machine

/-- The outcome of a command. -/
abbrev Result := Host.Outcome State Fault Refusal

/-! ## One update for each field of State -/

/-- The state with its field `link` replaced. -/
def State.setLink (s : State) (x : Link) : State := { s with link := x }

/-- The state with its field `sale` replaced. -/
def State.setSale (s : State) (x : Sale) : State := { s with sale := x }

/-- The state with its field `cluster` replaced. -/
def State.setCluster (s : State) (x : Cluster) : State := { s with cluster := x }

/-- The state with its field `scale` replaced. -/
def State.setScale (s : State) (x : Scale) : State := { s with scale := x }

/-- The state with its field `capture` replaced. -/
def State.setCapture (s : State) (x : Capture) : State := { s with capture := x }

/-- The state with its field `bagging` replaced. -/
def State.setBagging (s : State) (x : Bagging) : State := { s with bagging := x }

/-- The state with its field `card` replaced. -/
def State.setCard (s : State) (x : Card) : State := { s with card := x }

/-- The state with its field `authority` replaced. -/
def State.setAuthority (s : State) (x : Authority) : State := { s with authority := x }

/-- The state with its field `sense` replaced. -/
def State.setSense (s : State) (x : Sense) : State := { s with sense := x }

/-- The state with its field `drawer` replaced. -/
def State.setDrawer (s : State) (x : Drawer) : State := { s with drawer := x }

/-- The state with its field `tone` replaced. -/
def State.setTone (s : State) (x : Option Playing) : State := { s with tone := x }

/-- The state with its field `engine` replaced. -/
def State.setEngine (s : State) (x : Engine) : State := { s with engine := x }

/-- The state with its field `composer` replaced. -/
def State.setComposer (s : State) (x : Composer) : State := { s with composer := x }

/-- The state with its field `journal` replaced. -/
def State.setJournal (s : State) (x : Journal) : State := { s with journal := x }

/-- The state with its field `fresh` replaced. -/
def State.setFresh (s : State) (x : Nat) : State := { s with fresh := x }

/-- The state with its field `pending` replaced. -/
def State.setPending (s : State) (x : List Instr) : State := { s with pending := x }

/-! ## Replies, notices and the transmitter (R182, R183) -/

/-- A notice placed behind every notice of its own or a higher priority (R183). -/
def insertNotice (n : Notice) : List Notice → List Notice
  | [] => [n]
  | m :: ms => if m.priority < n.priority then n :: m :: ms else m :: insertNotice n ms

/-- Whether a notice is a WEIGHT notice. -/
def Notice.isWeight : Notice → Bool
  | .weight _ => true
  | _ => false

/-- R183: a WEIGHT notice replaces a queued one at its place; any other notice placed in a full queue (32) is dropped and sets
the LOST mark. -/
def Link.place (l : Link) (n : Notice) : Link :=
  if n.isWeight && l.notices.any Notice.isWeight then
    { l with notices := l.notices.map (fun m => if m.isWeight then n else m) }
  else if 32 ≤ l.notices.length then { l with lost := true }
  else { l with notices := insertNotice n l.notices }

/-- The places of the reply list in use: formed replies, and the place reserved for a READ JOURNAL (R182). -/
def Link.places (l : Link) : Nat := l.replies.length + (if l.reserved.isSome then 1 else 0)

/-- The transmitter, when free, takes the oldest formed reply, else the head of the notice queue (R183). A notice leaves the queue as it is
chosen (log entry 51). -/
def Link.pump (l : Link) (held : Option CardRecord) : Link :=
  match l.sending with
  | some _ => l
  | none =>
    match l.replies with
    | r :: _ => { l with sending := some { chars := messageChars r.body', reply := true } }
    | [] =>
      match l.notices with
      | n :: ns => { l with sending := some { chars := messageChars (n.body held), reply := false }, notices := ns }
      | [] => l

/-- A block places a notice. -/
def State.notice (s : State) (n : Notice) : State := s.setLink (s.link.place n)

/-- A reply is formed. -/
def State.reply (s : State) (kind tag : Byte) (b : ReplyBody) : State :=
  s.setLink { s.link with replies := s.link.replies ++ [{ kind := kind, tag := tag, body := b }] }

/-- The end of a step: a free transmitter chooses its next message (R183; log entry 26). -/
def State.finish (s : State) : State := s.setLink (s.link.pump s.card.held)

/-- A step that ends in a next state. -/
def answer (s : State) : Result := .next s.finish

/-- A LINK ERROR notice. -/
def State.linkError (s : State) (e : LinkErrors) (chars : Nat) : State := s.notice (.linkError e chars)

/-! ## The journal array (R166): cells rising by address, none listed that holds 0xFF, which an unlisted address reads as -/

/-- The bytes of the array. -/
def arraySize : Nat := 4194304

/-- The bytes of a block. -/
def blockSize : Nat := 4096

/-- What an unlisted address reads as: "An erased byte reads 0xFF" (R166). -/
def erasedByte : Byte := 0xFF

/-- The canonical form: addresses strictly rising and inside the array, no listed cell erased. -/
def Memory.wf : List Host.Cell → Bool
  | [] => true
  | c :: cs => decide (c.1 < arraySize) && c.2 != erasedByte && cs.all (fun d => decide (c.1 < d.1)) && Memory.wf cs

/-- The byte at an address. -/
def Memory.read : List Host.Cell → Nat → Byte
  | [], _ => erasedByte
  | c :: cs, a => if c.1 = a then c.2 else Memory.read cs a

/-- A byte written at an address, the form kept: writing 0xFF removes the cell. -/
def Memory.write : List Host.Cell → Nat → Byte → List Host.Cell
  | [], a, b => if b = erasedByte then [] else [(a, b)]
  | c :: cs, a, b =>
    if a < c.1 then (if b = erasedByte then c :: cs else (a, b) :: c :: cs)
    else if c.1 = a then (if b = erasedByte then cs else (a, b) :: cs)
    else c :: Memory.write cs a b

/-- Consecutive bytes from an address. -/
def Memory.readBytes (m : List Host.Cell) (a : Nat) : Nat → List Byte
  | 0 => []
  | n + 1 => Memory.read m a :: Memory.readBytes m (a + 1) n

/-- A write that forms each new byte from the address, the old byte and the byte given; addresses outside the array are left. -/
def Memory.combine (f : Nat → Byte → Byte → Byte) (m : List Host.Cell) (a : Nat) : List Byte → List Host.Cell
  | [] => m
  | b :: bs =>
    Memory.combine f (if a < arraySize then Memory.write m a (f a (Memory.read m a) b) else m) (a + 1) bs

/-- R166: a programmed byte is the AND of its old value and the value given. -/
def Memory.program (m : List Host.Cell) (a : Nat) (bs : List Byte) : List Host.Cell :=
  Memory.combine (fun _ old new => old &&& new) m a bs

/-- A page program cut by a reset: "may leave any of its bytes partly programmed" (R166), so each bit to be programmed is
programmed or not, by a free value (log entry 10). -/
def Memory.cutProgram (m : List Host.Cell) (a : Nat) (bs : List Byte) (k : Nat) : List Host.Cell :=
  Memory.combine (fun x old new => old &&& (new ||| Config.freeByte k x)) m a bs

/-- A program of a commit byte cut by a reset: partly programmed too, but never whole, for such a cut leaves a torn record or an identity that
is not WRITTEN (R168, R173; log entry 10). -/
def Memory.cutCommit (m : List Host.Cell) (a : Nat) (bs : List Byte) (k : Nat) : List Host.Cell :=
  Memory.combine (fun x old new => if old &&& (new ||| Config.freeByte k x) = old &&& new then old
                                   else old &&& (new ||| Config.freeByte k x)) m a bs

/-- A page program that failed verify: a bit can only have gone from 1 to 0 (R166), and which bits did is a free value
(log entry 11). -/
def Memory.failedProgram (m : List Host.Cell) (a : Nat) (bs : List Byte) (k : Nat) : List Host.Cell :=
  Memory.combine (fun x old _ => old &&& Config.freeByte k x) m a bs

/-- R166: every byte of a block is set to 0xFF. -/
def Memory.erase (m : List Host.Cell) (block : Nat) : List Host.Cell := m.filter (fun c => c.1 / blockSize != block)

/-- A block erase cut by a reset: "some bytes erased and others holding their old contents" (R166), by a free value
(log entry 10), and such that the block is DIRTY at the next scan (R173): its first byte is erased and its last byte that was not
erased holds its old content. -/
def Memory.cutErase (block k : Nat) : List Host.Cell → List Host.Cell
  | [] => []
  | c :: cs =>
    if c.1 / blockSize ≠ block ∨ cs.any (fun d => d.1 / blockSize == block) = false ∨
        (c.1 ≠ block * blockSize ∧ (Config.freeByte k c.1).getLsbD 0 = true) then
      c :: Memory.cutErase block k cs
    else Memory.cutErase block k cs

/-- A block erase that failed verify: which bits have returned to 1 is a free value (log entry 11). -/
def Memory.failedErase (m : List Host.Cell) (block k : Nat) : List Host.Cell :=
  (m.map (fun c => if c.1 / blockSize = block then (c.1, c.2 ||| Config.freeByte k c.1) else c)).filter
    (fun c => c.2 != erasedByte)

/-- Whether every byte of a block reads 0xFF. -/
def Memory.blockErased (m : List Host.Cell) (block : Nat) : Bool := !m.any (fun c => c.1 / blockSize == block)

/-- A fresh free value is used up. -/
def State.useFresh (s : State) : State := s.setFresh (s.fresh + 1)

/-! ## The conversion unit (R71) -/

/-- R71: the arbiter grants an idle converter to the pending slot of highest precedence: produce, bagging, temperature. -/
def Converter.grant (c : Converter) : Converter :=
  match c.converting with
  | some _ => c
  | none =>
    if c.produce then { c with produce := false, converting := some .produce, discard := false }
    else if c.bagging then { c with bagging := false, converting := some .bagging, discard := false }
    else if c.temperature then { c with temperature := false, converting := some .temperature, discard := false }
    else c

/-- R71: a temperature request makes its slot pending, or merges into the one pending. -/
def State.requestTemperature (s : State) : State :=
  s.setScale { s.scale with conv := ({ s.scale.conv with temperature := true } : Converter).grant }

/-! ## Tones (R136) -/

/-- The precedence of a tone (section 7.4). -/
def ToneName.precedence : ToneName → Nat
  | .alarm => 4
  | .alert => 3
  | .double => 2
  | .chirp => 1

/-- Whether a request begins its tone: it does unless a tone of higher precedence plays (R136). -/
def toneBegins (playing : Option Playing) (t : ToneName) : Bool :=
  match playing with
  | none => true
  | some p => decide (p.tone.precedence ≤ t.precedence)

/-- R136: a request judged against the tone playing. -/
def State.requestTone (s : State) (t : ToneName) (src : ToneSource) : State :=
  if toneBegins s.tone t then s.setTone (some { tone := t, source := src, elapsed := 0, steps := 0 }) else s

/-- R136: a request to stop ALARM of source DRAWER ends only that. -/
def State.stopDrawerAlarm (s : State) : State :=
  match s.tone with
  | some p => if p.tone = .alarm ∧ p.source = .drawerController then s.setTone none else s
  | none => s

end Sys2Proof.Machine
end

