-- ==== Sys2Proof/Machine/Cluster.lean ====
section
/-! DEFINITION. The cluster unit's own operations: the outgoing frame list (R39 to R43), the own wanted set and the own entry
(R64, R67), the call queue (R61 to R63), the supply table (R53 to R56), the consumer records (R57 to R60), the line diagnosis mode
(R35, R36) and the station record (R44). What these tell the print engine and the drawer controller is in Supply.lean. -/

namespace Sys2Proof.Machine

/-! ## Notices of the cluster unit -/

/-- The number of rows in the supply table, the own row included. -/
def Cluster.rows (c : Cluster) : Nat := c.peers.length + 1

/-- R67: the CALL notice that reports the own call as it stands. -/
def Cluster.callNotice (c : Cluster) : Notice :=
  .call c.ownPlace c.queue.length (c.ownEntry.bind (fun e => e.ticket)) c.ownReasons c.light

/-- The cluster unit replaced; when the own entry or its place has changed, one CALL notice (R67). -/
def State.updateCluster (s : State) (c : Cluster) : State :=
  if c.ownEntry = s.cluster.ownEntry ∧ c.ownPlace = s.cluster.ownPlace then s.setCluster c
  else (s.setCluster c).notice c.callNotice

/-- R44: a change of station state places one STATION notice. -/
def State.stationNotice (s : State) (before : StationState) : State :=
  s.notice (.station before s.cluster.state s.cluster.loneCause s.cluster.rows)

/-- R35, R36, R37: a change of the line diagnosis mode returns both counts and the failure count to 0 and places one LINE MODE
notice; the mode it already has places none. -/
def State.setMode (s : State) (m : LineMode) (cause : LineModeCause) : State :=
  if m = s.cluster.mode then s
  else
    (s.setCluster { s.cluster with mode := m, fullCount := 0, backCount := 0, failures := [] }).notice
      (.lineMode s.cluster.mode m cause)

/-! ## The outgoing frame list (R39 to R43) -/

/-- The class of a frame of the list. -/
def OutBody.cls : OutBody → Nat
  | .expire _ => 1
  | .callClear _ => 2
  | .callRaise _ => 3
  | .release _ _ => 4
  | .claim _ _ _ => 5
  | .topup _ _ _ => 6
  | .roll => 7

/-- Whether a frame is a CALL RAISE or CALL CLEAR. -/
def OutBody.isCall : OutBody → Bool
  | .callClear _ => true
  | .callRaise _ => true
  | _ => false

/-- Whether a frame is a CLAIM or TOPUP for a consumer. -/
def OutBody.isSupply (k : Consumer) : OutBody → Bool
  | .claim k' _ _ => k' == k
  | .topup k' _ _ => k' == k
  | _ => false

/-- Whether a frame is a RELEASE for a consumer. -/
def OutBody.isRelease (k : Consumer) : OutBody → Bool
  | .release k' _ => k' == k
  | _ => false

/-- Whether a frame is a ROLL. -/
def OutBody.isRoll : OutBody → Bool
  | .roll => true
  | _ => false

/-- Whether a frame is an EXPIRE. -/
def OutBody.isExpire : OutBody → Bool
  | .expire _ => true
  | _ => false

/-- R39: a frame at the place its class and age give it: lowest class first, then oldest. -/
def insertOut (f : OutFrame) : List OutFrame → List OutFrame
  | [] => [f]
  | g :: gs =>
    if f.body.cls < g.body.cls ∨ (f.body.cls = g.body.cls ∧ f.age < g.age) then f :: g :: gs else g :: insertOut f gs

/-- A frame added, with the age of this moment. -/
def Cluster.addOut (c : Cluster) (b : OutBody) : Cluster :=
  { c with out := insertOut { age := c.nextAge, body := b } c.out, nextAge := c.nextAge + 1 }

/-- A frame that replaces the pending one of its kind and keeps its age, or is added when none is pending (R39). -/
def Cluster.replaceOut (c : Cluster) (kind : OutBody → Bool) (b : OutBody) : Cluster :=
  match c.out.find? (fun f => kind f.body) with
  | some f => { c with out := insertOut { age := f.age, body := b } (c.out.filter (fun g => !kind g.body)) }
  | none => c.addOut b

/-- Whether the frame on the bus is of a kind. -/
def Cluster.busHas (c : Cluster) (kind : OutBody → Bool) : Bool :=
  match c.onBus with
  | some b => c.out.any (fun f => f.age == b.age && kind f.body)
  | none => false

/-- Whether a held request concerns a consumer's supply. -/
def BusRequest.concerns (k : Consumer) : BusRequest → Bool
  | .call _ => false
  | .supply _ k' => k' == k
  | .release k' => k' == k

/-- R40: a request for a ROLL; while one is pending it changes nothing. -/
def Cluster.requestRoll (c : Cluster) : Cluster :=
  if c.out.any (fun f => f.body.isRoll) then c else c.addOut .roll

/-- R40: a call request applied to the list. -/
def Cluster.applyCall (c : Cluster) (b : OutBody) : Cluster := c.replaceOut OutBody.isCall b

/-- R40, R39: a call request, held while the call frame it would replace is on the bus. -/
def Cluster.requestCall (c : Cluster) (b : OutBody) : Cluster :=
  if c.busHas OutBody.isCall then { c with heldRequests := c.heldRequests ++ [.call b] } else c.applyCall b

/-- R41: a CLAIM or TOPUP request applied to the list. -/
def Cluster.applySupply (c : Cluster) (b : OutBody) (k : Consumer) : Cluster := c.replaceOut (OutBody.isSupply k) b

/-- R41, R39: a CLAIM or TOPUP request, held while the frame it would replace is on the bus, or while an earlier request for the
consumer is held (log entry 17). -/
def Cluster.requestSupply (c : Cluster) (b : OutBody) (k : Consumer) : Cluster :=
  if c.busHas (OutBody.isSupply k) || c.heldRequests.any (BusRequest.concerns k) then
    { c with heldRequests := c.heldRequests ++ [.supply b k] }
  else c.applySupply b k

/-- R41: a release request applied to the list: a pending CLAIM or TOPUP goes, and the units not yet being released join the
pending RELEASE or form a new one. -/
def Cluster.applyRelease (c : Cluster) (k : Consumer) : Cluster :=
  let c := { c with out := c.out.filter (fun f => !f.body.isSupply k) }
  let n := c.countedHolding k
  if n = 0 then c else c.replaceOut (OutBody.isRelease k) (.release k (c.pendingRelease k + n))

/-- R41, R39: whether a release request would change the frame on the bus: withdraw the consumer's CLAIM or TOPUP, or merge units into its
RELEASE. -/
def Cluster.releaseTouchesBus (c : Cluster) (k : Consumer) : Bool :=
  c.busHas (OutBody.isSupply k) || (c.busHas (OutBody.isRelease k) && decide (0 < c.countedHolding k))

/-- R41, R39: a release request, held while a frame it would change is on the bus, or while an earlier request for the consumer is held (log
entry 17). -/
def Cluster.requestRelease (c : Cluster) (k : Consumer) : Cluster :=
  if c.releaseTouchesBus k || c.heldRequests.any (BusRequest.concerns k) then
    { c with heldRequests := c.heldRequests ++ [.release k] }
  else c.applyRelease k

/-- A held request applied to the list as it stands (R39). -/
def Cluster.applyHeld (c : Cluster) : BusRequest → Cluster
  | .call b => c.applyCall b
  | .supply b k => c.applySupply b k
  | .release k => c.applyRelease k

/-- R39: the frame on the bus has had its outcome, so the held requests are applied in order. -/
def Cluster.leaveBus (c : Cluster) : Cluster :=
  c.heldRequests.foldl Cluster.applyHeld { c with onBus := none, heldRequests := [] }

/-- The own frame on the bus leaves the list (taken or vetoed, R33). -/
def Cluster.dropOwn (c : Cluster) : Cluster :=
  match c.onBus with
  | some b => { c with out := c.out.filter (fun f => f.age != b.age) }
  | none => c

/-- A station put into the EXPIRE waiting set, kept by number. -/
def insertStation (n : StationNo) : List StationNo → List StationNo
  | [] => [n]
  | m :: ms => if n.toNat < m.toNat then n :: m :: ms else if n = m then m :: ms else m :: insertStation n ms

/-- R42, refilling: while an EXPIRE place is free, the lowest waiting target's EXPIRE is added. -/
def Cluster.refillOne (c : Cluster) : Cluster :=
  match c.expireWaiting with
  | [] => c
  | n :: ns =>
    if (c.out.filter (fun f => f.body.isExpire)).length < 2 then ({ c with expireWaiting := ns } : Cluster).addOut (.expire n)
    else c

/-- R42: at most two EXPIREs stand in the list, so two refills suffice. -/
def Cluster.refillExpire (c : Cluster) : Cluster := c.refillOne.refillOne

/-- R42, adding. -/
def Cluster.requestExpire (c : Cluster) (n : StationNo) : Cluster :=
  if c.out.any (fun f => f.body == .expire n) then c
  else if 2 ≤ (c.out.filter (fun f => f.body.isExpire)).length then
    { c with expireWaiting := insertStation n c.expireWaiting }
  else c.addOut (.expire n)

/-- R42: a pending EXPIRE for a station is withdrawn, and the station leaves the waiting set. -/
def Cluster.withdrawExpire (c : Cluster) (n : StationNo) : Cluster :=
  ({ c with out := c.out.filter (fun f => f.body != .expire n),
            expireWaiting := c.expireWaiting.filter (fun m => m != n) } : Cluster).refillExpire

/-! ## The own call (R64) -/

/-- The call frame that a wanted set asks for (R64). -/
def callWish (set : Reasons) : OutBody := if set = 0 then .callClear .withdrawn else .callRaise set

/-- The entry of a station removed. -/
def Cluster.removeEntry (c : Cluster) (n : StationNo) : Cluster :=
  { c with queue := c.queue.filter (fun e => e.station != n) }

/-- The reason set of a station's entry replaced; ticket and place are kept (R62). -/
def Cluster.replaceReasons (c : Cluster) (n : StationNo) (r : Reasons) : Cluster :=
  { c with queue := c.queue.map (fun e => if e.station = n then { e with reasons := r } else e) }

/-- An entry put at the tail, but ahead of the provisional own entry, which stands behind every other (R63). -/
def Cluster.appendEntry (c : Cluster) (e : CallEntry) : Cluster :=
  let provisional := fun f : CallEntry => f.station == c.number && f.ticket.isNone
  { c with queue := c.queue.filter (fun f => !provisional f) ++ e :: c.queue.filter provisional }

/-- A new entry at the tail with the counter's value as ticket, and the counter advances (R61, R62). -/
def Cluster.createEntry (c : Cluster) (n : StationNo) (r : Reasons) : Cluster :=
  { c.appendEntry { station := n, ticket := some c.counter, reasons := r } with counter := c.counter + 1 }

/-- R62: a CALL RAISE applied to the queue. -/
def Cluster.applyRaise (c : Cluster) (n : StationNo) (r : Reasons) : Cluster :=
  match c.entryOf n with
  | some _ => c.replaceReasons n r
  | none => c.createEntry n r

/-- R64, LONE: the own entry follows the wanted set at once. -/
def Cluster.loneCall (c : Cluster) (r : Reasons) : Cluster :=
  if r = 0 then c.removeEntry c.number else c.applyRaise c.number r

/-- R64, OFF, LISTEN and JOINING: the provisional own entry follows the wanted set at once. -/
def Cluster.provisionalCall (c : Cluster) (r : Reasons) : Cluster :=
  if r = 0 then c.removeEntry c.number
  else
    match c.ownEntry with
    | some _ => c.replaceReasons c.number r
    | none => { c with queue := c.queue ++ [{ station := c.number, ticket := none, reasons := r }] }

/-- R64: what a change of the wanted set to `r` does, by station state; `wish` is the call frame asked for. A CALL RAISE asked for while the CALL
CLEAR of a successful clear attempt is pending replaces it by R40, so the own entry keeps its place, against R66's "a new call" (log entry 66). -/
def Cluster.wantedChanged (c : Cluster) (r : Reasons) (wish : OutBody) : Cluster :=
  match c.state with
  | .member => ({ c with wanted := r } : Cluster).requestCall wish
  | .lone => ({ c with wanted := r } : Cluster).loneCall r
  | .off => (({ c with wanted := r } : Cluster).provisionalCall r).requestCall wish
  | .listen => (({ c with wanted := r } : Cluster).provisionalCall r).requestCall wish
  | .joining => (({ c with wanted := r } : Cluster).provisionalCall r).requestCall wish

/-- R64: the wanted set becomes `r`; a set that stays the same changes nothing. -/
def State.setWanted (s : State) (r : Reasons) : State :=
  if r = s.cluster.wanted then s else s.updateCluster (s.cluster.wantedChanged r (callWish r))

/-- R64: a block raises a reason. -/
def State.raise (s : State) (r : CallReason) : State := s.setWanted (s.cluster.wanted.add r)

/-- R64: a block withdraws a reason. -/
def State.withdraw (s : State) (r : CallReason) : State := s.setWanted (s.cluster.wanted.remove r)

/-! ## The call queue from ROLLs (R61, R63) -/

/-- R61: what a taken ROLL's ticket field does to the counter. -/
def Cluster.learnTicket (c : Cluster) : Option Ticket → Cluster
  | none => c
  | some t =>
    if c.learned then (if ticketNewer t c.newest then { c with counter := t + 1 } else c)
    else { c with counter := t + 1, learned := true }

/-- How far back from the newest ticket a ticket lies (R63). -/
def Cluster.back (c : Cluster) (t : Ticket) : Nat := (c.newest - t).toNat

/-- R63: an entry placed in ticket order: entries whose ticket lies further back stand nearer the head, and an entry without a
ticket stands behind every other. An entry with the ticket of another station's entry goes behind that one (log entry 42). -/
def insertByTicket (c : Cluster) (e : CallEntry) (t : Ticket) : List CallEntry → List CallEntry
  | [] => [e]
  | f :: fs =>
    match f.ticket with
    | none => e :: f :: fs
    | some u => if c.back u < c.back t then e :: f :: fs else f :: insertByTicket c e t fs

/-- An entry with a ticket placed in ticket order. -/
def Cluster.placeEntry (c : Cluster) (n : StationNo) (t : Ticket) (r : Reasons) : Cluster :=
  { c with queue := insertByTicket c { station := n, ticket := some t, reasons := r } t c.queue }

/-- R63: the call fields of a ROLL at a MEMBER, with an empty reason set too (log entry 69). -/
def Cluster.rollCallMember (c : Cluster) (n : StationNo) (r : RollFields) : Cluster :=
  if r.callOpen then
    match c.entryOf n, r.ticket with
    | some _, _ => c.replaceReasons n r.reasons
    | none, none => c.createEntry n r.reasons
    | none, some t => c.placeEntry n t r.reasons
  else c.removeEntry n

/-- R63: the call fields of a ROLL at a LISTEN or JOINING station, with an empty reason set too (log entry 69). -/
def Cluster.rollCallOutside (c : Cluster) (n : StationNo) (r : RollFields) : Cluster :=
  if r.callOpen then
    match r.ticket with
    | none => (c.removeEntry n).createEntry n r.reasons
    | some t => (c.removeEntry n).placeEntry n t r.reasons
  else c.removeEntry n

/-! ## The supply table (R53 to R56) -/

/-- A row put at its place by station number, replacing the row of that station. -/
def insertRow (r : Row) : List Row → List Row
  | [] => [r]
  | q :: qs =>
    if r.station.toNat < q.station.toNat then r :: q :: qs
    else if r.station = q.station then r :: qs
    else q :: insertRow r qs

/-- A count of a row. -/
def Row.count (r : Row) : Consumer → Nat
  | .printer => r.printer
  | .drawer => r.drawer

/-- A row with one count replaced. -/
def Row.setCount (r : Row) (k : Consumer) (n : Nat) : Row :=
  match k with
  | .printer => { r with printer := n }
  | .drawer => { r with drawer := n }

/-- R54: a peer's count grows by a grant, when it has a row. -/
def Cluster.growPeer (c : Cluster) (n : StationNo) (k : Consumer) (units : Nat) : Cluster :=
  { c with peers := c.peers.map (fun r => if r.station = n then r.setCount k (r.count k + units) else r) }

/-- R55: a peer's count falls by the units of a RELEASE, to no less than 0. -/
def Cluster.lowerPeer (c : Cluster) (n : StationNo) (k : Consumer) (units : Nat) : Cluster :=
  { c with peers := c.peers.map (fun r => if r.station = n then r.setCount k (r.count k - units) else r) }

/-- R56: one count of a taken ROLL at a MEMBER: a value not above the row's is taken; a greater one only up to B less every other
count. The second part is the TABLE CONFLICT notice of a greater value. -/
def Cluster.rollCount (c : Cluster) (n : StationNo) (k : Consumer) (value : Nat) : Cluster × List Notice :=
  let row := (c.peerRow n).getD { station := n, printer := 0, drawer := 0 }
  let before := row.count k
  if value ≤ before then ({ c with peers := insertRow (row.setCount k value) c.peers }, [])
  else
    let c0 := { c with peers := insertRow (row.setCount k 0) c.peers }
    let taken := min value (c.budget.getD 0 - c0.tableSum)
    ({ c with peers := insertRow (row.setCount k taken) c.peers }, [.tableConflict n k before (some value) taken])

/-- R56: a taken ROLL's counts at a MEMBER, the drawer count first. -/
def Cluster.rollRow (c : Cluster) (n : StationNo) (r : RollFields) : Cluster × List Notice :=
  let d := c.rollCount n .drawer r.drawer
  let p := d.1.rollCount n .printer r.printer
  (p.1, d.2 ++ p.2)

/-- R47: one field of a row reduced while the table sum exceeds B. -/
def Cluster.trimField (c : Cluster) (k : Consumer) (n : StationNo) : Cluster × List Notice :=
  match c.peerRow n with
  | none => (c, [])
  | some row =>
    let excess := c.tableSum - c.budget.getD 0
    let after := row.count k - excess
    if after = row.count k then (c, [])
    else ({ c with peers := insertRow (row.setCount k after) c.peers }, [.tableConflict n k (row.count k) none after])

/-- R47: the fields in the order reduced: printer fields before drawer fields, the highest station number first. -/
def Cluster.trim (c : Cluster) : Cluster × List Notice :=
  let order := c.peers.reverse.map (fun r => (Consumer.printer, r.station)) ++
    c.peers.reverse.map (fun r => (Consumer.drawer, r.station))
  order.foldl (fun acc x => let r := acc.1.trimField x.1 x.2; (r.1, acc.2 ++ r.2)) (c, [])

/-- R54, R50, R56: the frames that a MEMBER vetoes, sent by another. -/
def Cluster.rejects (c : Cluster) (f : Frame) : Bool :=
  match f.body with
  | .expire t => t == c.number
  | .claim _ lo hi =>
    (f.sender != c.number && (c.peerRow f.sender).isNone) || decide (grantOf (c.budget.getD 0) c.tableSum hi < lo)
  | .topup _ lo hi =>
    (f.sender != c.number && (c.peerRow f.sender).isNone) || decide (grantOf (c.budget.getD 0) c.tableSum hi < lo)
  | .roll r => r.join && (decide (some r.budget ≠ c.budget) || f.sender == c.number)
  | .callClear _ => false
  | .callRaise _ => false
  | .release _ _ => false

/-! ## Silence timers (R49) -/

/-- R49: the other stations that have a row or an entry, each once. -/
def Cluster.known (c : Cluster) : List StationNo :=
  ((c.peers.map (fun r => r.station) ++ c.queue.map (fun e => e.station)).filter (fun n => n != c.number)).eraseDups

/-- R49: timers of stations with neither row nor entry go, and a station that has come to have one gets a timer at 0. Outside
MEMBER there are none. -/
def Cluster.syncSilence (c : Cluster) : Cluster :=
  match c.state with
  | .member =>
    let kept := c.silence.filter (fun t => c.known.contains t.1)
    { c with silence := c.known.foldl (fun ts n => if ts.any (fun t => t.1 == n) then ts else ts ++ [(n, 0)]) kept }
  | _ => { c with silence := [] }

/-- R49: a station's timer restarts at 0. -/
def Cluster.heard (c : Cluster) (n : StationNo) : Cluster :=
  { c with silence := c.silence.map (fun t => if t.1 = n then (n, 0) else t) }

/-! ## Consumer records (R57 to R60) -/

/-- R60: a lone claim or top-up: granted the lesser of its maximum and what the lone budget leaves, or vetoed when that is below
its minimum. -/
def Cluster.loneClaim (c : Cluster) (k : Consumer) (lo hi : Nat) (topup : Bool) : Cluster :=
  let g := grantOf loneBudget c.ownSum hi
  let r := c.consumer k
  if g < lo then
    c.setConsumer k (if topup then { r with request := .idle } else { r with request := .waiting, claim := some (lo, hi) })
  else c.setConsumer k { holding := r.holding + g, request := .idle, claim := none }

/-- R57: a consumer asks for a claim: a SHARE CLAIM is asked for, or in LONE the answer is given at once. -/
def Cluster.askClaim (c : Cluster) (k : Consumer) (lo hi : Nat) : Cluster :=
  if c.state = .lone then c.loneClaim k lo hi false
  else (c.setConsumer k { c.consumer k with request := .asking, claim := some (lo, hi) }).requestSupply (.claim k lo hi) k

/-- R57, R58: a top-up of the printer. -/
def Cluster.askTopup (c : Cluster) (hi : Nat) : Cluster :=
  if c.state = .lone then c.loneClaim .printer 1 hi true
  else (c.setConsumer .printer { c.printer with request := .asking }).requestSupply (.topup .printer 1 hi) .printer

/-- R57: a consumer in WAITING asks again with the same minimum and maximum. -/
def Cluster.askAgain (c : Cluster) (k : Consumer) : Cluster :=
  match (c.consumer k).request, (c.consumer k).claim with
  | .waiting, some (lo, hi) => c.askClaim k lo hi
  | _, _ => c

/-- R57 to R59: a retry event: each waiting consumer asks again, the printer first (log entry 16). -/
def Cluster.retryEvent (c : Cluster) : Cluster := (c.askAgain .printer).askAgain .drawer

/-- R58: whether a SHARE RELEASE that has been taken tops the printer up. -/
def Cluster.topupDue (c : Cluster) (headMax : Nat) (job : Bool) : Bool :=
  decide (3 ≤ c.printer.holding) && decide (c.printer.holding < 2 + headMax) && c.printer.request == .idle && job &&
    !c.out.any (fun f => f.body.isRelease .printer) && c.drawer.request == .idle

/-- R57: a consumer's request state and claim when it asks for release. -/
def Cluster.clearRequest (c : Cluster) (k : Consumer) : Cluster :=
  c.setConsumer k { c.consumer k with request := .idle, claim := none }

end Sys2Proof.Machine
end

