-- ==== Sys2Proof/Machine/Records.lean ====
section
/-! DEFINITION. The journal's records: their bytes (section 12.4), their page programs (R172), the reading of headers, the walk of a
block (R179), the identity record (R168), and the fields of a stored sale as a copy reads them (R164). -/

namespace Sys2Proof.Machine

/-! ## Building a record (R169, section 12.4) -/

/-- The start mark of a record. -/
def startMark : Byte := 0xA5

/-- The value of a record kind. -/
def RecordKind.value (k : RecordKind) : Nat := k.code + 1

/-- A SALE or VOID record carries a receipt number. -/
def RecordKind.isSale : RecordKind → Bool
  | .sale => true
  | .voidSale => true
  | _ => false

/-- The bytes of a line: first byte, description, quantity or net grams, bag status with unit price, amount, expectation. -/
def Line.bytes (l : Line) : List Byte :=
  let weighed := match l.kind with | .weighed _ => 128 | .item _ => 0
  let count := match l.kind with | .weighed g => g | .item q => q
  bytesOf 1 (weighed + (if l.voided then 64 else 0) + (if l.expected.isSome then 32 else 0) + l.desc.length) ++ l.desc ++
  bytesOf 2 count ++ bytesOf 3 (l.bag.code * 2097152 + l.price) ++ bytesOf 3 l.amount ++
  (match l.expected with
   | some (g, t) => bytesOf 2 g ++ bytesOf 2 t
   | none => [])

/-- The bytes of a tender. -/
def Tender.bytes (t : Tender) : List Byte :=
  match t.kind with
  | .cash => bytesOf 1 0 ++ bytesOf 4 t.amount
  | .card masked approval => bytesOf 1 1 ++ bytesOf 4 t.amount ++ textBytes masked ++ textBytes approval

/-- The body of a SALE or VOID record (R17, R18). -/
def Sale.recordBody (s : Sale) : List Byte :=
  bytesOf 4 s.reference.toNat ++ bytesOf 4 s.stamp.toNat ++ bytesOf 1 s.lines.length ++ bytesOf 1 s.tenders.length ++
  bytesOf 4 s.total ++ bytesOf 4 s.change ++ s.lines.flatMap Line.bytes ++ s.tenders.flatMap Tender.bytes

/-- The body of an append's record; a MARK also holds the last receipt number when it is taken. -/
def Append.body (sale : Sale) (lastReceipt : Nat) : Append → List Byte
  | .sale _ => sale.recordBody
  | .noSale source => bytesOf 1 source.code
  | .call ticket reasons source digits =>
    optBytes 2 (fun t : Ticket => bytesOf 2 t.toNat) ticket ++ reasonBytes reasons ++ bytesOf 1 ClearCause.attendant.code ++
      bytesOf 1 source.code ++ (match source with | .card => digits | .key => List.replicate 4 0)
  | .mark value => bytesOf 4 value.toNat ++ bytesOf 3 lastReceipt

/-- The kind of an append's record. -/
def Append.kind : Append → RecordKind
  | .sale isVoid => if isVoid then .voidSale else .sale
  | .noSale _ => .noSale
  | .call _ _ _ _ => .call
  | .mark _ => .mark

/-- The bytes of a header's receipt number: 3 for SALE and VOID, none otherwise. -/
def receiptBytes (kind : RecordKind) (receipt : Nat) : List Byte := if kind.isSale then bytesOf 3 receipt else []

/-- The length of a record with a given body. -/
def recordLength (kind : RecordKind) (body : List Byte) : Nat := (if kind.isSale then 11 else 8) + body.length + 3

/-- A record's bytes before its commit byte: header, body, check. -/
def recordBytes (kind : RecordKind) (seq : Seq) (receipt : Nat) (body : List Byte) : List Byte :=
  let covered := startMark :: (bytesOf 1 kind.value ++ bytesOf 2 (recordLength kind body) ++ bytesOf 4 seq.toNat ++
    receiptBytes kind receipt ++ body)
  covered ++ bytesOf 2 (recordCheck covered).toNat

/-- A PAD: a header alone, with the length of the rest of its block and the sequence of the record that follows (R169). -/
def padBytes (rest : Nat) (seq : Seq) : List Byte :=
  startMark :: (bytesOf 1 RecordKind.pad.value ++ bytesOf 2 rest ++ bytesOf 4 seq.toNat)

/-- The bytes of a page. -/
def pageSize : Nat := 256

/-- Bytes from an address cut into page programs, none crossing a page boundary (R166). The first argument bounds the count. -/
def pagePrograms : Nat → Nat → List Byte → List (Nat × List Byte)
  | 0, _, _ => []
  | fuel + 1, a, bs =>
    match bs with
    | [] => []
    | _ :: _ =>
      let n := pageSize - a % pageSize
      (a, bs.take n) :: pagePrograms fuel (a + n) (bs.drop n)

/-- The page programs of a record: its bytes before the commit byte, then the commit byte alone (R172). -/
def recordPrograms (a : Nat) (bytes : List Byte) : List (Nat × List Byte) :=
  pagePrograms 16 a bytes ++ [(a + bytes.length, [0])]

/-! ## The identity record (R168, section 12.4) -/

/-- The bytes of the identity record before its commit byte. -/
def identityBytes (store : Nat) (label : Text) : List Byte :=
  let covered := startMark :: (bytesOf 2 store ++ textBytes label)
  covered ++ bytesOf 2 (recordCheck covered).toNat

/-- R168: the identity that block 0 holds. -/
def readIdentity (m : List Host.Cell) : Identity :=
  if Memory.blockErased m 0 then .blank
  else
    let store := natOf (Memory.readBytes m 1 2)
    let n := (Memory.read m 3).toNat
    let label := Memory.readBytes m 4 n
    let covered := Memory.readBytes m 0 (4 + n)
    if Memory.read m 0 = startMark ∧ store ≤ 9999 ∧ textIn 1 8 label = true ∧
        natOf (Memory.readBytes m (4 + n) 2) = (recordCheck covered).toNat ∧ Memory.read m (6 + n) = 0 then
      .written store label
    else .damaged

/-! ## Headers and the walk of a block (R169, R179) -/

/-- The kind that a header's kind byte names. -/
def kindOf : Nat → Option RecordKind
  | 1 => some .sale
  | 2 => some .voidSale
  | 3 => some .noSale
  | 4 => some .call
  | 5 => some .mark
  | 6 => some .pad
  | _ => none

/-- A record met in a block: kind, sequence, address, length. -/
structure FoundRecord where
  kind : RecordKind
  seq : Seq
  addr : Nat
  length : Nat
  deriving DecidableEq, Repr

/-- The valid header at an address, by R179: the start mark, one of the six kinds, and a length from 8 to 2,560 that does not cross
the block, which ends at `limit`. -/
def headerAt (m : List Host.Cell) (a limit : Nat) : Option FoundRecord :=
  if limit < a + 8 then none
  else if Memory.read m a ≠ startMark then none
  else
    match kindOf (Memory.read m (a + 1)).toNat with
    | none => none
    | some k =>
      let n := natOf (Memory.readBytes m (a + 2) 2)
      if 8 ≤ n ∧ n ≤ 2560 ∧ a + n ≤ limit then
        some { kind := k, seq := BitVec.ofNat 32 (natOf (Memory.readBytes m (a + 4) 4)), addr := a, length := n }
      else none

/-- Whether a record's commit byte holds 0x00. -/
def committedAt (m : List Host.Cell) (r : FoundRecord) : Bool := Memory.read m (r.addr + r.length - 1) == 0

/-- What the walk of a block finds: its committed records, whether a torn one ended it, and where it is open, if it is. -/
structure Walk where
  records : List FoundRecord
  torn : Bool
  openAt : Option Nat
  deriving DecidableEq, Repr

/-- Whether every byte from an address to a limit is erased. -/
def erasedFrom (m : List Host.Cell) (a limit : Nat) : Bool := !m.any (fun c => decide (a ≤ c.1) && decide (c.1 < limit))

/-- R179: the walk from an address towards the block's end. The first argument bounds the number of records. -/
def walkFrom (m : List Host.Cell) : Nat → Nat → Nat → Walk
  | 0, _, _ => { records := [], torn := false, openAt := none }
  | fuel + 1, a, limit =>
    match headerAt m a limit with
    | none => { records := [], torn := false, openAt := if erasedFrom m a limit then some a else none }
    | some r =>
      match r.kind with
      | .pad => { records := [], torn := false, openAt := none }
      | _ =>
        if committedAt m r then
          let w := walkFrom m fuel (a + r.length) limit
          { w with records := r :: w.records }
        else { records := [], torn := true, openAt := none }

/-- The most records that a block can begin to hold. -/
def walkFuel : Nat := 512

/-- The walk of a ring block from its start. -/
def walkBlock (m : List Host.Cell) (b : Nat) : Walk := walkFrom m walkFuel (b * blockSize) ((b + 1) * blockSize)

/-- The committed record of a sequence in a block. -/
def findRecord (m : List Host.Cell) (b : Nat) (seq : Seq) : Option FoundRecord :=
  (walkBlock m b).records.find? (fun r => r.seq == seq)

/-! ## Reading a stored sale (R164) -/

/-- What reading a field of the bytes at hand gives: bytes still to be read, a field out of its range, or a value and the rest. -/
inductive Parsed (α : Type) where
  | short
  | bad
  | ok (v : α) (rest : List Byte)
  deriving DecidableEq, Repr

/-- One field after another. -/
def Parsed.next {α β : Type} (p : Parsed α) (f : α → List Byte → Parsed β) : Parsed β :=
  match p with
  | .short => .short
  | .bad => .bad
  | .ok v rest => f v rest

/-- Bytes of a fixed count. -/
def parseBytes (n : Nat) (bs : List Byte) : Parsed (List Byte) := if bs.length < n then .short else .ok (bs.take n) (bs.drop n)

/-- A number within its range. -/
def parseNat (n lo hi : Nat) (bs : List Byte) : Parsed Nat :=
  (parseBytes n bs).next (fun x rest => if lo ≤ natOf x ∧ natOf x ≤ hi then .ok (natOf x) rest else .bad)

/-- A text within its range of lengths, all printable. -/
def parseText (lo hi : Nat) (bs : List Byte) : Parsed Text :=
  (parseNat 1 lo hi bs).next (fun n rest => (parseBytes n rest).next (fun t rest => if t.all printable then .ok t rest else .bad))

/-- The bag status of a value. -/
def bagOf : Nat → Option BagStatus
  | 0 => some .skipped
  | 1 => some .pending
  | 2 => some .bagged
  | 3 => some .accepted
  | 4 => some .removalPending
  | 5 => some .removed
  | _ => none

/-- The expected weight and tolerance of a stored line, when its first byte says that they are present. -/
def parseExpected (present : Bool) (bs : List Byte) : Parsed (Option (Nat × Nat)) :=
  if present then
    (parseNat 2 1 30000 bs).next (fun g rest => (parseNat 2 0 3000 rest).next (fun t rest => .ok (some (g, t)) rest))
  else .ok none bs

/-- The quantity or net weight of a stored line, by its kind (R3). -/
def lineKindOf (weighed : Bool) (n : Nat) : Option LineKind :=
  if weighed then (if n % 5 = 0 ∧ n ≤ 15045 then some (.weighed n) else none)
  else if 1 ≤ n ∧ n ≤ 999 then some (.item n) else none

/-- A stored line, each field within the range of R3 (R164). Bit 20 of the bag status and price field belongs to neither and is ignored (log entry
63). -/
def parseLine (bs : List Byte) : Parsed Line :=
  (parseNat 1 0 255 bs).next fun first rest =>
  let n := first % 32
  if n < 1 ∨ 24 < n ∨ (first.testBit 7 && first.testBit 5) = true then .bad
  else
    (parseBytes n rest).next fun desc rest =>
    (parseNat 2 0 65535 rest).next fun count rest =>
    (parseNat 3 0 16777215 rest).next fun price rest =>
    (parseNat 3 0 9999999 rest).next fun amount rest =>
    (parseExpected (first.testBit 5) rest).next fun expected rest =>
    match lineKindOf (first.testBit 7) count, bagOf (price / 2097152) with
    | some kind, some bag =>
      if desc.all printable = true ∧ price % 1048576 ≤ 999999 then
        .ok { kind := kind, desc := desc, price := price % 1048576, amount := amount, voided := first.testBit 6, bag := bag,
              expected := expected } rest
      else .bad
    | _, _ => .bad

/-- A stored tender (R6, R164). Its masked number is any text of 12 to 19 printable characters (log entry 72). -/
def parseTender (bs : List Byte) : Parsed Tender :=
  (parseNat 1 0 1 bs).next fun kind rest =>
  (parseNat 4 1 99999999 rest).next fun amount rest =>
  if kind = 0 then .ok { kind := .cash, amount := amount } rest
  else
    (parseText 12 19 rest).next fun masked rest =>
    (parseText 1 8 rest).next fun approval rest => .ok { kind := .card masked approval, amount := amount } rest

/-- The header and the fixed fields of a stored sale: kind, record length, receipt number, reference, time stamp, counts, total,
change. -/
structure StoredHead where
  isVoid : Bool
  length : Nat
  receipt : Nat
  reference : BitVec 32
  stamp : BitVec 32
  lineCount : Nat
  tenderCount : Nat
  total : Nat
  change : Nat
  deriving DecidableEq, Repr

/-- What R164 checks of the header of a stored SALE or VOID record: start mark, kind, length (32 bytes at the least, section 12.4; log entry
30), the sequence asked for. The kind, `true` for VOID, and the length. -/
def parseStart (seq : Seq) (bs : List Byte) : Parsed (Bool × Nat) :=
  (parseBytes 1 bs).next fun mark rest =>
  (parseNat 1 1 2 rest).next fun kind rest =>
  (parseNat 2 32 2560 rest).next fun length rest =>
  (parseNat 4 0 4294967295 rest).next fun number rest =>
  if mark ≠ [startMark] ∨ number ≠ seq.toNat then .bad else .ok (kind == 2, length) rest

/-- The header with the receipt number, the first of the fields whose range is checked (R164). -/
def parseHeader (seq : Seq) (bs : List Byte) : Parsed (Bool × Nat × Nat) :=
  (parseStart seq bs).next fun h rest =>
  (parseNat 3 1 999999 rest).next fun receipt rest => .ok (h.1, h.2, receipt) rest

/-- The header and the fixed fields of a stored sale. -/
def parseHead (seq : Seq) (bs : List Byte) : Parsed StoredHead :=
  (parseHeader seq bs).next fun h rest =>
  (parseNat 4 0 4294967295 rest).next fun reference rest =>
  (parseNat 4 0 4294967295 rest).next fun stamp rest =>
  (parseNat 1 0 64 rest).next fun lineCount rest =>
  (parseNat 1 0 4 rest).next fun tenderCount rest =>
  (parseNat 4 0 99999999 rest).next fun total rest =>
  (parseNat 4 0 99999999 rest).next fun change rest =>
  .ok { isVoid := h.1, length := h.2.1, receipt := h.2.2, reference := BitVec.ofNat 32 reference,
        stamp := BitVec.ofNat 32 stamp, lineCount := lineCount, tenderCount := tenderCount, total := total, change := change } rest

/-- As many items as are counted, each by its own reading: those whose bytes are at hand, and how the reading ended. -/
def parseMany {α : Type} (f : List Byte → Parsed α) : Nat → List Byte → List α × Parsed Unit
  | 0, bs => ([], .ok () bs)
  | n + 1, bs =>
    match f bs with
    | .short => ([], .short)
    | .bad => ([], .bad)
    | .ok v rest =>
      let r := parseMany f n rest
      (v :: r.1, r.2)

end Sys2Proof.Machine
end

