-- ==== Sys2Proof/Machine/Array.lean ====
section
/-! DEFINITION. The array arbiter (R173), the block table (R167), the ring order and the conditions of erase-ahead and of the level
(R174, R176). -/

namespace Sys2Proof.Machine

/-! ## The arbiter (R173) -/

/-- R173, item 3: an erase that WRITE IDENTITY is ready to start. -/
def Journal.identityErase (j : Journal) : Option EraseOp :=
  match j.identityWrite with
  | some w => if w.erase then some { owner := .identity, block := 0, suspensions := 0, elapsed := 0 } else none
  | none => none

/-- R173: a free array is granted to the oldest waiting program or read, then to a suspended erase, then to an erase that WRITE
IDENTITY is ready to start. Erase-ahead's erase starts by its own row, ERASE_AHEAD_START, or between two operations of one asker (log entry
54). -/
def Journal.arbitrate (j : Journal) : Journal :=
  match j.arbiter.running with
  | some _ => j
  | none =>
    match j.arbiter.waiting with
    | op :: ops => { j with arbiter := { j.arbiter with running := some op, waiting := ops } }
    | [] =>
      match j.arbiter.suspended with
      | some e => { j with arbiter := { j.arbiter with running := some (.erase e), suspended := none } }
      | none =>
        match j.identityErase with
        | some e => { j with arbiter := { j.arbiter with running := some (.erase e) } }
        | none => j

/-- R173: a running erase that has been suspended fewer than 8 times is suspended, and its count rises. -/
def Arbiter.suspend (a : Arbiter) : Arbiter :=
  match a.running with
  | some (.erase e) =>
    if e.suspensions < 8 then { a with running := none, suspended := some { e with suspensions := e.suspensions + 1 } } else a
  | _ => a

/-- R173: a program or read is asked for. -/
def Journal.ask (j : Journal) (op : ArrayOp) : Journal :=
  let a := j.arbiter.suspend
  ({ j with arbiter := { a with waiting := a.waiting ++ [op] } } : Journal).arbitrate

/-- The running operation is over, and the array is granted anew. -/
def Journal.freeArray (j : Journal) : Journal := ({ j with arbiter := { j.arbiter with running := none } } : Journal).arbitrate

/-- The block of a running or suspended erase. -/
def Arbiter.erasing (a : Arbiter) : Option Nat :=
  match a.running, a.suspended with
  | some (.erase e), _ => some e.block
  | _, some e => some e.block
  | _, _ => none

/-! ## The ring and the block table (R166, R167) -/

/-- R166: in ring order block 1,023 is followed by block 1. -/
def nextBlock (b : Nat) : Nat := if 1023 ≤ b then 1 else b + 1

/-- A block's state in the table; `none` is ERASED. -/
def Journal.blockState (j : Journal) (b : Nat) : Option BlockState := (j.blocks.find? (fun x => x.1 == b)).map (fun x => x.2)

/-- Whether a ring block is ERASED. -/
def Journal.isErased (j : Journal) (b : Nat) : Bool := (j.blockState b).isNone

/-- A block's state put into a table kept by number; `none` removes it, for ERASED. -/
def putBlock (b : Nat) (v : Option BlockState) : List (Nat × BlockState) → List (Nat × BlockState)
  | [] => (match v with | some x => [(b, x)] | none => [])
  | y :: ys =>
    if b < y.1 then (match v with | some x => (b, x) :: y :: ys | none => y :: ys)
    else if b = y.1 then (match v with | some x => (b, x) :: ys | none => ys)
    else y :: putBlock b v ys

/-- A block's state set. -/
def Journal.setBlock (j : Journal) (b : Nat) (v : Option BlockState) : Journal := { j with blocks := putBlock b v j.blocks }

/-- R172: the block table adds a committed sequence, the highest so far, to its block. -/
def Journal.addSeq (j : Journal) (b : Nat) (s : Seq) : Journal :=
  match j.blockState b with
  | some (.written (some (lo, _))) => j.setBlock b (some (.written (some (lo, s))))
  | _ => j.setBlock b (some (.written (some (s, s))))

/-- The highest committed sequence of a block. -/
def BlockState.highest : BlockState → Option Seq
  | .written (some (_, hi)) => some hi
  | .written none => none
  | .dirty => none

/-- Whether a block holds a committed record with a sequence above the export mark. -/
def Journal.holdsAbove (j : Journal) (b : Nat) : Bool :=
  match (j.blockState b).bind BlockState.highest with
  | some hi => seqHigher hi j.mark
  | none => false

/-- Whether a block of the table names a sequence: WRITTEN, with the sequence between its lowest and its highest. -/
def BlockState.names (s : Seq) : BlockState → Bool
  | .written (some (lo, hi)) => !seqHigher lo s && !seqHigher s hi
  | .written none => false
  | .dirty => false

/-- R174: the target of erase-ahead, the first of the two blocks after the write block that is not ERASED. -/
def Journal.target (j : Journal) : Option Nat :=
  let a := nextBlock j.writeBlock
  let b := nextBlock a
  if !j.isErased a then some a else if !j.isErased b then some b else none

/-- R174: erase-ahead is at rest until the scan ends, and in FAULT. -/
def Journal.eraseAheadActive (j : Journal) : Bool := j.scan.isNone && j.level != .fault

/-- R174: erase-ahead is blocked while its target holds a committed record above the export mark. -/
def Journal.targetBlocked (j : Journal) : Bool :=
  j.eraseAheadActive && (match j.target with | some b => j.holdsAbove b | none => false)

/-- R176: the ring blocks after a block before the first that holds a record above the mark; the first argument is how many are
looked at. -/
def Journal.countFree (j : Journal) : Nat → Nat → Nat
  | 0, _ => 0
  | fuel + 1, b => if j.holdsAbove b then 0 else 1 + j.countFree fuel (nextBlock b)

/-- R176: the available count, 1,022 when no block other than the write block holds a record above the mark. -/
def Journal.available (j : Journal) : Nat := j.countFree 1022 (nextBlock j.writeBlock)

/-! ## Placing an append (R169, R172) -/

/-- R172: whether a record of a kind and length can be placed: in the rest of the write block, or in the next block, which a MARK may
take when it is ERASED and any other kind when the next two are. -/
def Journal.canPlace (j : Journal) (k : RecordKind) (length : Nat) : Bool :=
  if length ≤ j.rest then true
  else
    let a := nextBlock j.writeBlock
    j.isErased a && (k == .mark || j.isErased (nextBlock a))

/-- The record length of an append. -/
def Journal.appendLength (j : Journal) (sale : Sale) (a : Append) : Nat := recordLength a.kind (a.body sale j.lastReceipt)

/-- R172: whether an append can be placed now. -/
def Journal.placeable (j : Journal) (sale : Sale) (a : Append) : Bool := j.canPlace a.kind (j.appendLength sale a)

/-- Whether an append is a MARK. -/
def Append.isMark : Append → Bool
  | .mark _ => true
  | _ => false

/-- Whether an append is the sale's. -/
def Append.isSale : Append → Bool
  | .sale _ => true
  | _ => false

/-- R172, R176: an append other than a MARK is the oldest, no append is in progress, and it cannot be placed because erase-ahead is
blocked. -/
def Journal.stuck (j : Journal) (sale : Sale) : Bool :=
  match j.taken, j.queue with
  | none, a :: _ => j.targetBlocked && !a.isMark && !j.placeable sale a
  | _, _ => false

/-- R19: a SALE or VOID append is not taken for as long as the journal stays FULL, not even where it could be placed by R172 (log entry
56). -/
def Journal.keptInFull (j : Journal) (a : Append) : Bool := a.isSale && j.level == .full

/-- R172: the append that can be taken: the oldest when it can be placed; while it waits on blocked erase-ahead, the oldest MARK. -/
def Journal.takeable (j : Journal) (sale : Sale) : Option Append :=
  match j.taken, j.queue with
  | none, a :: rest =>
    if j.placeable sale a && !j.keptInFull a then some a
    else if j.targetBlocked then (rest.find? Append.isMark).filter (fun m => j.placeable sale m)
    else none
  | _, _ => none

/-- R176: the level that the journal's state gives. -/
def Journal.judgedLevel (j : Journal) (sale : Sale) : JournalLevel :=
  match j.level with
  | .fault => .fault
  | l =>
    if (l == .full && j.targetBlocked) || j.stuck sale then .full
    else if j.available < 64 then .nearFull
    else .normal

end Sys2Proof.Machine
end

