-- ==== Sys2Proof/Machine/Compose.lean ====
section
/-! DEFINITION. The receipt composer (Chapter 9): the forms of numbers and amounts, the sections and their text lines, the cursor, the
reading of a copy's record, and the dots of a text line's rows. -/

namespace Sys2Proof.Machine

/-! ## Texts (R156, R158, R159) -/

/-- The space. -/
def space : Byte := 32

/-- The columns of a text line. -/
def columns : Nat := 42

/-- A text given by its codes. -/
def codes (l : List Nat) : Text := l.map (BitVec.ofNat 8)

/-- A text filled out with spaces on the right, or cut, to a width. -/
def padRight (n : Nat) (t : Text) : Text := (t ++ List.replicate n space).take n

/-- R156: a composed line is exactly 42 characters. -/
def fullLine (t : Text) : Text := padRight columns t

/-- R159: a centred line. -/
def centred (t : Text) : Text := fullLine (List.replicate ((columns - t.length) / 2) space ++ t)

/-- A text that starts in column 1, and one that ends in column 42. -/
def leftRight (l r : Text) : Text := padRight (columns - r.length) l ++ r

/-- n digits, zero-filled on the left. -/
def fixedDigits : Nat → Nat → Text
  | 0, _ => []
  | n + 1, v => BitVec.ofNat 8 (48 + v / 10 ^ n % 10) :: fixedDigits n v

/-- Decimal digits with no leading zeros, and one digit for 0. -/
def decimal (v : Nat) : Text :=
  match (fixedDigits 10 v).dropWhile (fun b => b == 48) with
  | [] => [48]
  | t => t

/-- R158: an amount with the configured decimals. -/
def amountText (decimals v : Nat) : Text :=
  let t := decimal v
  let t := List.replicate (decimals + 1 - t.length) (48 : Byte) ++ t
  if decimals = 0 then t else t.take (t.length - decimals) ++ 46 :: t.drop (t.length - decimals)

/-- R158: a bracketed amount. -/
def bracketed (t : Text) : Text := 40 :: (t ++ [41])

/-- R158: grams as kilograms. -/
def weightText (grams : Nat) : Text := decimal (grams / 1000) ++ 46 :: (fixedDigits 3 (grams % 1000) ++ codes [32, 107, 103])

/-- "STORE ". -/
def textStore : Text := codes [83, 84, 79, 82, 69, 32]
/-- "LANE ". -/
def textLane : Text := codes [76, 65, 78, 69, 32]
/-- "REF ". -/
def textRef : Text := codes [82, 69, 70, 32]
/-- "TIME ". -/
def textTime : Text := codes [84, 73, 77, 69, 32]
/-- "*** SALE VOIDED ***". -/
def textBanner : Text := codes [42, 42, 42, 32, 83, 65, 76, 69, 32, 86, 79, 73, 68, 69, 68, 32, 42, 42, 42]
/-- "TOTAL". -/
def textTotal : Text := codes [84, 79, 84, 65, 76]
/-- "CHANGE". -/
def textChange : Text := codes [67, 72, 65, 78, 71, 69]
/-- "CASH". -/
def textCash : Text := codes [67, 65, 83, 72]
/-- "CASH RETURNED". -/
def textReturned : Text := textCash ++ codes [32, 82, 69, 84, 85, 82, 78, 69, 68]
/-- "CARD ". -/
def textCard : Text := codes [67, 65, 82, 68, 32]
/-- "APPROVAL ". -/
def textApproval : Text := codes [65, 80, 80, 82, 79, 86, 65, 76, 32]
/-- "RECEIPT ". -/
def textReceipt : Text := codes [82, 69, 67, 69, 73, 80, 84, 32]
/-- " SEQ ". -/
def textSeq : Text := codes [32, 83, 69, 81, 32]
/-- "NOT RECORDED". -/
def textNotRecorded : Text := codes [78, 79, 84, 32, 82, 69, 67, 79, 82, 68, 69, 68]
/-- "COPY ". -/
def textCopy : Text := codes [67, 79, 80, 89, 32]
/-- "COPY CHECK FAILED". -/
def textCheckFailed : Text := textCopy ++ codes [67, 72, 69, 67, 75, 32, 70, 65, 73, 76, 69, 68]
/-- "RECORD UNREADABLE". -/
def textUnreadable : Text := codes [82, 69, 67, 79, 82, 68, 32, 85, 78, 82, 69, 65, 68, 65, 66, 76, 69]
/-- "VOID". -/
def textVoid : Text := codes [86, 79, 73, 68]
/-- "ACPT". -/
def textAccepted : Text := codes [65, 67, 80, 84]
/-- "PEND". -/
def textPending : Text := codes [80, 69, 78, 68]
/-- " x ". -/
def textTimes : Text := codes [32, 120, 32]
/-- " @ ". -/
def textAt : Text := codes [32, 64, 32]
/-- "/kg". -/
def textPerKg : Text := codes [47, 107, 103]

/-! ## What a receipt is composed from (R159, R164) -/

/-- The content of a receipt, as far as it is at hand: `lines` and `tenders` are those that can be composed by now. -/
structure ReceiptData where
  isVoid : Bool
  reference : BitVec 32
  stamp : BitVec 32
  lineCount : Nat
  tenderCount : Nat
  lines : List Line
  tenders : List Tender
  total : Nat
  change : Nat
  deriving DecidableEq, Repr

/-- R159: a sale's receipt reads the sale record in place. -/
def Sale.receiptData (s : Sale) (isVoid : Bool) : ReceiptData :=
  { isVoid := isVoid, reference := s.reference, stamp := s.stamp, lineCount := s.lines.length, tenderCount := s.tenders.length,
    lines := s.lines, tenders := s.tenders, total := s.total, change := s.change }

/-- The bytes of a stored sale before its lines. -/
def storedHeadSize : Nat := 29

/-- The lines and tenders that stand in the bytes of a copy after its head, and whether a field among them is bad: out of range, or
beyond the record's body. -/
def CopySource.items (c : CopySource) (h : StoredHead) (rest : List Byte) : List Line × List Tender × Bool :=
  let whole := decide (h.length ≤ c.bytes.length)
  let ls := parseMany parseLine h.lineCount (rest.take (h.length - 3 - storedHeadSize))
  match ls.2 with
  | .bad => (ls.1, [], true)
  | .short => (ls.1, [], whole)
  | .ok _ rest =>
    let ts := parseMany parseTender h.tenderCount rest
    match ts.2 with
    | .bad => (ls.1, ts.1, true)
    | .short => (ls.1, ts.1, whole)
    | .ok _ _ => (ls.1, ts.1, false)

/-- What a copy has read of its record: its content so far, and whether the header or a field has failed (R164). -/
def CopySource.view (c : CopySource) : Option ReceiptData × Bool :=
  match parseHead c.seq c.bytes with
  | .bad => (none, true)
  | .short => (none, false)
  | .ok h rest =>
    let x := c.items h rest
    (some { isVoid := h.isVoid, reference := h.reference, stamp := h.stamp, lineCount := h.lineCount,
            tenderCount := h.tenderCount, lines := x.1, tenders := x.2.1, total := h.total, change := h.change }, x.2.2)

/-- The record length that a copy's header gives, once it has been read. -/
def CopySource.recordLength (c : CopySource) : Option Nat :=
  match parseStart c.seq c.bytes with
  | .ok h _ => some h.2
  | _ => none

/-- R165: the receipt number read, absent if the record proved unreadable before it was read, and if the number stored is out of range (log entry
62). -/
def CopySource.receipt (c : CopySource) : Option Nat :=
  match parseHeader c.seq c.bytes with
  | .ok h _ => some h.2.2
  | _ => none

/-- The content of the receipt being composed, and whether its record has failed. -/
def State.receipt (s : State) : Option ReceiptData × Bool :=
  match s.composer.kind, s.composer.copy with
  | some .sale, _ => (some (s.sale.receiptData false), false)
  | some .voidSale, _ => (some (s.sale.receiptData true), false)
  | some .copy, some c => c.view
  | _, _ => (none, false)

/-! ## The cursor (R155, R159 to R161) -/

/-- The text lines of a line (R160). -/
def Line.textLines (l : Line) : Nat :=
  match l.kind with
  | .item q => if 1 < q then 2 else 1
  | .weighed _ => 2

/-- The text lines of a tender (R161). -/
def Tender.textLines (t : Tender) : Nat :=
  match t.kind with
  | .cash => 1
  | .card _ _ => 2

/-- Whether a tender is CASH. -/
def Tender.isCash (t : Tender) : Bool :=
  match t.kind with
  | .cash => true
  | .card _ _ => false

/-- The settlement line, or the footer when there is none (R159). -/
def ReceiptData.atSettlement (d : ReceiptData) : Cursor :=
  if d.isVoid && !d.tenders.any Tender.isCash then ⟨.footer, 0, 0⟩ else ⟨.settlement, 0, 0⟩

/-- The first tender, or what follows when there is none. -/
def ReceiptData.atTenders (d : ReceiptData) : Cursor := if d.tenderCount = 0 then d.atSettlement else ⟨.tenders, 0, 0⟩

/-- The first line, or what follows when there is none. -/
def ReceiptData.atItems (d : ReceiptData) : Cursor := if d.lineCount = 0 then ⟨.total, 0, 0⟩ else ⟨.items, 0, 0⟩

/-- The void banner, or what follows when there is none. -/
def ReceiptData.atBanner (d : ReceiptData) : Cursor := if d.isVoid then ⟨.banner, 0, 0⟩ else d.atItems

/-- R159: the first section of a receipt. -/
def firstCursor (headers : Nat) : Cursor := if headers = 0 then ⟨.store, 0, 0⟩ else ⟨.header, 0, 0⟩

/-- The cursor past the text line at it. -/
def ReceiptData.after (d : ReceiptData) (c : Cursor) : Cursor :=
  match c.part with
  | .header => c
  | .store => c
  | .reference => d.atBanner
  | .banner => d.atItems
  | .items =>
    if c.sub + 1 < ((d.lines[c.item]?).map Line.textLines).getD 1 then { c with sub := c.sub + 1 }
    else if c.item + 1 < d.lineCount then ⟨.items, c.item + 1, 0⟩
    else ⟨.total, 0, 0⟩
  | .total => d.atTenders
  | .tenders =>
    if c.sub + 1 < ((d.tenders[c.item]?).map Tender.textLines).getD 1 then { c with sub := c.sub + 1 }
    else if c.item + 1 < d.tenderCount then ⟨.tenders, c.item + 1, 0⟩
    else d.atSettlement
  | .settlement => ⟨.footer, 0, 0⟩
  | .footer => c

/-- The cursor past the text line at it; the header and store lines need nothing of the record. -/
def nextCursor (headers : Nat) (d : Option ReceiptData) (c : Cursor) : Cursor :=
  match c.part, d with
  | .header, _ => if c.item + 1 < headers then ⟨.header, c.item + 1, 0⟩ else ⟨.store, 0, 0⟩
  | .store, _ => ⟨.reference, 0, 0⟩
  | _, some d => d.after c
  | _, none => c

/-! ## The text lines (R159 to R162) -/

/-- The marker of a line (R160). -/
def Line.marker (l : Line) : Text :=
  if l.voided then textVoid
  else
    match l.bag with
    | .accepted => textAccepted
    | .pending => textPending
    | _ => List.replicate 4 space

/-- The amount of a line as printed, bracketed when the line is voided (R160). -/
def Line.amountText (l : Line) (decimals : Nat) : Text :=
  let t := Machine.amountText decimals l.amount
  if l.voided then bracketed t else t

/-- A text line of a line (R160). -/
def Line.text (l : Line) (decimals sub : Nat) : Text :=
  let head := padRight 25 l.desc ++ l.marker
  match l.kind, sub with
  | .item _, 0 => leftRight head (l.amountText decimals)
  | .item q, _ => fullLine (codes [32, 32] ++ decimal q ++ textTimes ++ Machine.amountText decimals l.price)
  | .weighed _, 0 => fullLine head
  | .weighed g, _ =>
    leftRight (codes [32, 32] ++ weightText g ++ textAt ++ Machine.amountText decimals l.price ++ textPerKg)
      (l.amountText decimals)

/-- R161: the masked number as printed: every character but the last four an asterisk. -/
def maskedText (t : Text) : Text := List.replicate (t.length - 4) 42 ++ t.drop (t.length - 4)

/-- A text line of a tender (R161). -/
def Tender.text (t : Tender) (decimals sub : Nat) : Text :=
  match t.kind, sub with
  | .cash, _ => leftRight textCash (amountText decimals t.amount)
  | .card masked _, 0 => leftRight (textCard ++ maskedText masked) (amountText decimals t.amount)
  | .card _ approval, _ => fullLine (codes [32, 32] ++ textApproval ++ approval)

/-- The settlement line (R159). -/
def ReceiptData.settlement (d : ReceiptData) (decimals : Nat) : Text :=
  if d.isVoid then
    leftRight textReturned (amountText decimals ((d.tenders.filter Tender.isCash).map (fun t => t.amount)).sum)
  else leftRight textChange (amountText decimals d.change)

/-- The text line at the cursor that the record gives, when what it needs is at hand. -/
def ReceiptData.text (d : ReceiptData) (decimals : Nat) (c : Cursor) : Option Text :=
  match c.part with
  | .reference =>
    some (leftRight (textRef ++ fixedDigits 10 d.reference.toNat) (textTime ++ fixedDigits 10 d.stamp.toNat))
  | .banner => some (centred textBanner)
  | .items => (d.lines[c.item]?).map (fun l => l.text decimals c.sub)
  | .total => some (leftRight textTotal (amountText decimals d.total))
  | .tenders => (d.tenders[c.item]?).map (fun t => t.text decimals c.sub)
  | .settlement => some (d.settlement decimals)
  | _ => none

/-- R162: "RECEIPT ", the receipt number, " SEQ ", the journal sequence. -/
def receiptLine (receipt : Nat) (seq : Seq) : Text :=
  textReceipt ++ fixedDigits 6 receipt ++ textSeq ++ fixedDigits 10 seq.toNat

/-- The footer of a SALE or VOID receipt by the commit status; none while it is PENDING (R162). -/
def Sale.footer (s : Sale) : Option Text :=
  match s.commit with
  | .committed => some (centred (receiptLine (s.receipt.getD 0) (s.journalSeq.getD 0)))
  | .failed => some (centred textNotRecorded)
  | _ => none

/-- R164: whether a copy reads no further: it has read its record's last byte, or the header has failed, whose length is not to be trusted (log entry
58). -/
def CopySource.allRead (c : CopySource) : Bool :=
  match parseStart c.seq c.bytes with
  | .ok h _ => decide (h.2 ≤ c.bytes.length)
  | .short => false
  | .bad => true

/-- The footer of a copy, once every byte has been read (R164). -/
def CopySource.footer (c : CopySource) : Option Text :=
  if c.allRead then
    match c.check with
    | .good => some (centred (textCopy ++ receiptLine (c.receipt.getD 0) c.seq))
    | .failed => some (centred textCheckFailed)
    | .unknown => none
  else none

/-- R159: the store line, from the identity held by the journal controller. -/
def storeLine : Identity → Text
  | .written store label => leftRight (textStore ++ fixedDigits 4 store) (textLane ++ label)
  | _ => leftRight (textStore ++ fixedDigits 4 0) textLane

/-- The line that can be composed at the cursor now. -/
def State.lineAtCursor (s : State) : Option Text :=
  match s.composer.cursor with
  | none => none
  | some c =>
    match c.part with
    | .header => (s.composer.headers[c.item]?).map centred
    | .store => some (storeLine s.journal.identity)
    | .footer =>
      (match s.composer.copy with
       | some x => x.footer
       | none => s.sale.footer)
    | _ => s.receipt.1.bind (fun d => d.text s.composer.decimals c)

/-! ## The composer's steps -/

/-- R155: the composer begins a receipt. The copy source stands as R163 has set it. -/
def Composer.begin (c : Composer) (k : JobKind) : Composer :=
  { c with state := .composing, kind := some k, cursor := some (firstCursor c.headers.length),
           copy := match k with | .copy => c.copy | _ => none }

/-- R165: the composer returns to IDLE; an ABANDONED job also empties the queue, which is empty at every other outcome. -/
def Composer.ended (c : Composer) : Composer := { c with state := .idle, kind := none, cursor := none, copy := none, queue := [] }

/-- Whether the composer can place a line: it is COMPOSING and the queue has a free place (R156). -/
def Composer.hasRoom (c : Composer) : Bool := c.state == .composing && decide (c.queue.length < 8)

/-- R162: a SALE or VOID receipt whose cursor has reached the footer while the commit status is PENDING enters FOOTER_WAIT, once the queue has a
free place (section 9.7; log entry 49). -/
def State.footerReached (s : State) : State :=
  match s.composer.cursor, s.composer.kind with
  | some ⟨.footer, _, _⟩, some .copy => s
  | some ⟨.footer, _, _⟩, _ =>
    if s.sale.commit = .pending ∧ s.composer.hasRoom = true then s.setComposer { s.composer with state := .footerWait } else s
  | _, _ => s

/-- R162: the commit verdict reaches the composer: in FOOTER_WAIT the footer can be composed, and PLACE_LINE places it (log entry
21). -/
def State.composerVerdict (s : State) : State :=
  if s.composer.state = .footerWait then s.setComposer { s.composer with state := .composing } else s

/-- The bytes of the next read of a copy: at most 96, within the block, and within the record once its length is known (R164). -/
def CopySource.readLength (c : CopySource) : Nat :=
  let inBlock := blockSize - (c.addr + c.bytes.length) % blockSize
  let inRecord := match c.recordLength with | some n => n - c.bytes.length | none => 96
  min 96 (min inBlock inRecord)

/-- Whether the cursor stands at the footer. -/
def Composer.atFooter (c : Composer) : Bool :=
  match c.cursor with
  | some ⟨.footer, _, _⟩ => true
  | _ => false

/-- R164: whether "RECORD UNREADABLE" is due: the header or a field has failed, and the cursor has not moved to the footer yet. -/
def State.unreadable (s : State) : Bool := s.receipt.2 && !s.composer.atFooter

/-- R164: the next read is asked for when the next text line needs bytes not yet read, and the queue has room for the line. The footer needs every
byte, after a failed field too. -/
def State.seekCopy (s : State) : State :=
  match s.composer.copy with
  | none => s
  | some c =>
    if s.composer.state = .composing ∧ s.composer.queue.length < 8 ∧ c.reading = false ∧ s.unreadable = false ∧
        s.lineAtCursor = none ∧ c.allRead = false then
      (s.setComposer { s.composer with copy := some { c with reading := true } }).setJournal
        (s.journal.ask (.read .copy (c.addr + c.bytes.length) c.readLength))
    else s

/-- A text line placed at the tail, and the cursor moved past it; the footer brings the composer to LAST_GIVEN (R156, R162). -/
def State.putLine (s : State) (t : Text) (next : Cursor) : State :=
  s.setComposer { s.composer with queue := s.composer.queue ++ [t], cursor := some next,
                                  state := if s.composer.atFooter then .lastGiven else s.composer.state }

/-- R164: a record whose header or field has failed: one line says so, the check is FAILED, and the cursor moves to the footer. Bytes not yet read
after a failed field are read before the footer; after a failed header none is (log entry 58). -/
def State.putUnreadable (s : State) : State :=
  (s.putLine (centred textUnreadable) ⟨.footer, 0, 0⟩).setComposer
    { (s.putLine (centred textUnreadable) ⟨.footer, 0, 0⟩).composer with
      copy := s.composer.copy.map (fun c => { c with check := .failed }) }

/-- R156: the composer places the line at the cursor when it can be composed; where the record has failed, R164's line instead. -/
def State.composeLine (s : State) : State :=
  if s.composer.hasRoom then
    match s.composer.cursor, s.lineAtCursor with
    | some c, some t => (s.putLine t (nextCursor s.composer.headers.length s.receipt.1 c)).footerReached.seekCopy
    | some _, none => if s.unreadable then s.putUnreadable.seekCopy else s.footerReached.seekCopy
    | none, _ => s
  else s

/-- R164: bytes read for a copy. When the record's last byte has been read its check is judged. -/
def CopySource.received (c : CopySource) (bs : List Byte) : CopySource :=
  let all := c.bytes ++ bs
  let c := { c with bytes := all, reading := false }
  match c.recordLength with
  | none => c
  | some n =>
    let c := { c with bytes := all.take n }
    if n ≤ all.length ∧ c.check = .unknown then
      { c with check := if natOf ((all.take (n - 1)).drop (n - 3)) = (recordCheck (all.take (n - 3))).toNat then .good else .failed }
    else c

/-- A copy read completes: its bytes go to the copy that reads at its address (R164, R165). A read that an abandoned copy asked for serves a new copy
that waits for bytes from the same address, and any other changes nothing (log entry 61). -/
def State.copyRead (s : State) (a n : Nat) : State :=
  match s.composer.copy with
  | none => s
  | some c =>
    if c.reading ∧ a = c.addr + c.bytes.length then
      (s.setComposer { s.composer with copy := some (c.received (Memory.readBytes s.journal.array a n)) }).seekCopy
    else s

/-! ## Rows (R140, R157) -/

/-- A row of a character's glyph: the space is white, code 127 a solid block, any other glyph a free value (log entry 18). -/
def glyph (ch : Byte) (row : Nat) : BitVec 12 :=
  if ch = 32 then 0 else if ch = 127 then BitVec.allOnes 12 else Config.glyphRow ch row

/-- Glyph rows laid side by side from a dot. -/
def layGlyphs (row : Nat) : Nat → Text → BitVec 512
  | _, [] => 0
  | dot, ch :: t => ((glyph ch row).zeroExtend 512 <<< dot) ||| layGlyphs row (dot + 12) t

/-- R157: the dots of a row of a text line; bit n is dot n. Rows 24 to 27 are white. -/
def rowImage (t : Text) (row : Nat) : BitVec 512 := if row < 24 then layGlyphs row 4 (t.take columns) else 0

/-- The black dots of a row in order of position (R140). -/
def blackDots (image : BitVec 512) : List Nat := (List.range 512).filter (fun i => image.getLsbD i)

/-- Dots divided into groups of at most D in order; the first argument bounds the count of groups. -/
def groups (d : Nat) : Nat → List Nat → List (List Nat)
  | 0, _ => []
  | fuel + 1, l =>
    match l with
    | [] => []
    | _ :: _ => l.take d :: groups d fuel (l.drop d)

/-- R140: the pass plan of dots in order: groups of D, the last the remainder. -/
def passPlan (d : Nat) (dots : List Nat) : List (List Nat) := groups d dots.length dots

/-- R140: the pass size under a holding. -/
def passSize (holding : Nat) : Nat := 32 * (holding - 2)

end Sys2Proof.Machine
end

