-- ==== Sys2Proof/Machine/Engine.lean ====
section
/-! DEFINITION. The print engine's own operations (Chapter 8): engine states and PRINT notices, staging, transfer, the row start
decision of R144, the row boundary, pauses, the fall of the holding, temperature results, and the taking of a job. -/

namespace Sys2Proof.Machine

/-- R153: the engine record replaced; a change of engine state while the part is RUNNING places one PRINT notice. -/
def State.putEngine (s : State) (e : Engine) (outcome : Option JobOutcome) : State :=
  let t := s.setEngine e
  if e.state ≠ s.engine.state ∧ s.link.part = .running then
    t.notice (.print s.engine.state e.state (if e.job.isSome then e.job else s.engine.job) t.printerHolding outcome)
  else t

/-- The engine enters a state. -/
def State.engineTo (s : State) (st : EngineState) : State := s.putEngine { s.engine with state := st } none

/-- R141: the strobe width of a head temperature. -/
def widthOf (t : Int) : Strobe :=
  if t ≤ 14 then .w120
  else if t ≤ 34 then .w100
  else if t ≤ 49 then .w085
  else if t ≤ 64 then .w070
  else .hot

/-- R140: a staged row with its pass size and pass count under a holding. -/
def stagedUnder (image : BitVec 512) (width : Strobe) (feed : Bool) (holding : Nat) : StagedRow :=
  let d := passSize holding
  { image := image, passSize := d, passes := (passPlan d (blackDots image)).length, width := width, feed := feed }

/-- R143: the line and row that come next, when a text line is in print with rows left or stands in the queue: the line in print
after staging, and the queue after it. -/
def State.nextRow (s : State) : Option (LineInPrint × List Text) :=
  let fromQueue : Option (LineInPrint × List Text) :=
    match s.composer.queue with
    | t :: ts => some ({ text := t, nextRow := 0 }, ts)
    | [] => none
  match s.engine.line with
  | some l => if l.nextRow < 28 then some (l, s.composer.queue) else fromQueue
  | none => fromQueue

/-- Whether a row waits to be staged: a feed row, or a row of text. -/
def State.rowWaits (s : State) : Bool := (s.engine.inFeed && decide (s.engine.feedCount < 112)) || s.nextRow.isSome

/-- R143, R151: the next row is staged, if there is one, none is staged yet, and the head temperature is present (R141). A line taken
from the queue frees a place, at which the composer may find the footer waiting (R162), and for which a copy may need bytes not yet read
(R164). -/
def State.stageRow (s : State) : State :=
  match s.engine.staged, s.engine.headTemp with
  | none, some temp =>
    if s.engine.inFeed then
      if s.engine.feedCount < 112 then
        s.setEngine { s.engine with staged := some (stagedUnder 0 (widthOf temp) true s.printerHolding) }
      else s
    else
      (match s.nextRow with
       | some (l, queue) =>
         (s.setComposer { s.composer with queue := queue }).footerReached.seekCopy.setEngine
           { s.engine with line := some l,
                           staged := some (stagedUnder (rowImage l.text l.nextRow) (widthOf temp) false s.printerHolding) }
       | none => s)
  | _, _ => s

/-- R144, case 4: the staged row is transferred to print; a row without passes begins its first step at once (R142), or as soon as the step of
a discarded row has completed (R146; log entry 55). -/
def State.transfer (s : State) (r : StagedRow) : State :=
  let plan := passPlan r.passSize (blackDots r.image)
  let s := s.putEngine
    { s.engine with state := if r.feed then .feeding else .printing,
                    line := if r.feed then s.engine.line
                            else s.engine.line.map (fun l => { l with nextRow := l.nextRow + 1 }),
                    current := some { image := r.image, width := r.width, pass := plan.head?, plan := plan.tail, feed := r.feed },
                    staged := none,
                    step := match s.engine.step, plan with
                      | some .leftover, _ => some .leftover
                      | _, [] => some .one
                      | _, _ => none } none
  s.requestTemperature.stageRow

/-- R144, cases 3 and 4, for a staged row. -/
def State.startStaged (s : State) : State :=
  match s.engine.staged with
  | some r => if r.width = .hot then s.engineTo .pausedHot else s.transfer r
  | none => s

/-- R144, cases 3 to 7. While the head temperature is absent the engine waits at the row start (R141; log entry 19). -/
def State.startRow (s : State) : State :=
  let s := s.stageRow
  match s.engine.staged with
  | some _ => s.startStaged
  | none =>
    if s.rowWaits then s.engineTo (if s.engine.inFeed then .feeding else .printing)
    else
      match s.composer.state with
      | .footerWait => s.engineTo .waitCommit
      | .lastGiven => (s.putEngine { s.engine with state := .feeding, inFeed := true, feedCount := 0 } none).stageRow.startStaged
      | _ => s.engineTo .printing

/-- The feed count at the start of its group of 28 feed rows (R146, R148). -/
def feedGroup (n : Nat) : Nat := n - n % 28

/-- R148: on entry to PAUSED_MEDIA a line that has printed its last row is discarded, and any other is printed again from row 0. -/
def LineInPrint.paused (l : LineInPrint) : Option LineInPrint := if l.nextRow < 28 then some { l with nextRow := 0 } else none

/-- R148: entry to PAUSED_MEDIA. The step of a row that a fall to 0 has just discarded completes in it (log entry 55). -/
def State.pauseMedia (s : State) : State :=
  s.putEngine
    { s.engine with state := .pausedMedia, current := none, staged := none, mediaPause := false,
                    line := s.engine.line.bind LineInPrint.paused,
                    feedCount := if s.engine.inFeed then feedGroup s.engine.feedCount else s.engine.feedCount } none

/-- The maximum of the printer's claim, 2 + H (R58). -/
def Engine.claimMax (e : Engine) : Nat := 2 + e.headMax

/-- R144: the row start decision. In case 2 the printer asks for a claim when its request state is NONE; in LONE the claim may be
granted at once (R60), and the engine then leaves CLAIMING by the same decision. -/
def State.rowStart (s : State) : State :=
  if s.engine.mediaPause || !s.sense.watchMedia.matching then s.pauseMedia
  else if s.printerHolding < 3 then
    let s := s.engineTo .claiming
    let s := if s.cluster.printer.request = .idle then s.setCluster (s.cluster.askClaim .printer 3 s.engine.claimMax) else s
    if s.printerHolding < 3 then s else s.startRow
  else s.startRow

/-- R139: in CLAIMING, a holding of 3 or more starts the rows. -/
def State.tellPrinter (s : State) : State :=
  if s.engine.state = .claiming ∧ 3 ≤ s.printerHolding then s.rowStart else s

/-- R151: 112 rows fed lead to CUTTING: the cutter motor is on, and the cut timer starts (R152). -/
def State.startCut (s : State) : State :=
  s.putEngine { s.engine with state := .cutting, line := none, current := none, staged := none, step := none,
                              cutTimer := some 0 } none

/-- The row boundary (R142, R144, R151). -/
def State.rowBoundary (s : State) (feed : Bool) : State :=
  let line := match s.engine.line with
    | some l => if l.nextRow < 28 then some l else none
    | none => none
  let n := if feed then s.engine.feedCount + 1 else s.engine.feedCount
  let s := s.setEngine { s.engine with current := none, step := none, line := line, feedCount := n }
  if feed ∧ 112 ≤ n then s.startCut else s.rowStart

/-- R156: what a line placed in the queue means to the engine: it is staged at once when none is staged. -/
def State.lineQueued (s : State) : State :=
  match s.engine.state, s.engine.current with
  | .printing, some _ => s.stageRow
  | .printing, none => s.rowStart
  | .waitCommit, _ => s.rowStart
  | _, _ => s

/-- A staged row with the width of a temperature. -/
def StagedRow.rewidth (r : StagedRow) (t : Int) : StagedRow := { r with width := widthOf t }

/-- R141, R147: a temperature result replaces the head temperature and re-stages the width; at 54 °C or less it ends PAUSED_HOT; and an
engine that waits at a row start for its first temperature decides again. -/
def State.temperatureResult (s : State) (t : Int) : State :=
  let absent := s.engine.headTemp.isNone
  let s := s.setEngine { s.engine with headTemp := some t, staged := s.engine.staged.map (fun r => r.rewidth t) }
  match s.engine.state, s.engine.current with
  | .pausedHot, _ => if t ≤ 54 then s.rowStart else s
  | .printing, none => if absent then s.rowStart else s
  | .feeding, none => if absent then s.rowStart else s
  | _, _ => s

/-! ## The fall of the holding (R146) -/

/-- R146: the current row under a new pass size: a pass of more dots is ended, and its dots are planned afresh with those still to
come; a pass within it runs on, and the passes to come are planned afresh. -/
def CurrentRow.replan (r : CurrentRow) (d : Nat) : CurrentRow :=
  match r.pass with
  | none => r
  | some p =>
    if d < p.length then
      let plan := passPlan d (p ++ r.plan.flatten)
      { r with pass := plan.head?, plan := plan.tail }
    else { r with plan := passPlan d r.plan.flatten }

/-- R146: rows thrown away when the holding falls to 0; a step in progress completes, and the line in print is printed again from row 0. Where the next
line's row 0 stands staged already, the line in print is that next line by R143 (log entry 71). -/
def Engine.discardRows (e : Engine) : Engine :=
  { e with current := none, staged := none, step := e.step.map (fun _ => .leftover), line := e.line.map (fun l => { l with nextRow := 0 }) }

/-- R146: the holding of a job has fallen to at least 3, or to 0. In PAUSED_HOT a fall to 0 discards the rows (R147), the line in
print goes back to row 0, and the feed count is kept, R146 returning it in FEEDING alone (log entry 57). In PRINTING and FEEDING the row start
decision asks for the claim at once, on entry to LONE before the pending requests (log entry 70). -/
def State.holdingFell (s : State) : State :=
  if 3 ≤ s.printerHolding then
    s.setEngine { s.engine with current := s.engine.current.map (fun r => r.replan (passSize s.printerHolding)),
                                staged := s.engine.staged.map (fun r => stagedUnder r.image r.width r.feed s.printerHolding) }
  else
    match s.engine.state with
    | .printing => (s.setEngine s.engine.discardRows).rowStart
    | .feeding =>
      (s.setEngine { s.engine.discardRows with feedCount := feedGroup s.engine.feedCount }).rowStart
    | .pausedHot => s.setEngine s.engine.discardRows
    | _ => s

/-! ## Taking a job (R139) -/

/-- The engine's job fields at their IDLE values (R138); the motor phase and what is not part of a job are kept. -/
def Engine.idleJob (e : Engine) : Engine :=
  { e with state := .idle, job := none, line := none, current := none, staged := none, mediaPause := false, inFeed := false,
           feedCount := 0, cutTimer := none, step := none }

/-- R139: a job request taken in IDLE, its five items in their order: the PRINT notice of the entry to CLAIMING carries the holding that a claim
granted at once has left (log entry 47). -/
def State.takeJob (s : State) (k : JobKind) : State :=
  let s := s.setEngine { s.engine.idleJob with job := some k }
  let s := s.setComposer (s.composer.begin k)
  let s := s.setCluster (s.cluster.askClaim .printer 3 s.engine.claimMax)
  (s.requestTemperature.engineTo .claiming).tellPrinter

/-- R20: the sale controller's request for a receipt: taken at once in IDLE, else it waits at the sale controller. -/
def State.requestReceipt (s : State) (k : JobKind) : State :=
  if s.engine.state = .idle then s.takeJob k else s.setSale { s.sale with waitingJob := some k }

end Sys2Proof.Machine
end

