-- ==== Sys2Proof/Machine/SaleCore.lean ====
section
/-! DEFINITION. The sale controller's own operations: totals and due (R7), the append of lines (R4), completion (R21), the commit
verdict (R19) and the print outcome (R20). -/

namespace Sys2Proof.Machine

/-- R4: an ITEM line's amount. -/
def itemAmount (quantity price : Nat) : Nat := quantity * price

/-- R4: a WEIGHED line's amount. -/
def weighedAmount (grams price : Nat) : Nat := (grams * price + 500) / 1000

/-- R12: the largest net weight that a READY produce channel can report, in grams. -/
def worstGrams : Nat := 15045

/-- R7: the amount due. -/
def Sale.dueNow (s : Sale) : Nat := s.total - (s.tenders.map (fun t => t.amount)).sum

/-- R7: the record with the due recomputed. -/
def Sale.redue (s : Sale) : Sale := { s with due := s.dueNow }

/-- R3, R7: a line appended at the tail; the total grows by its amount. -/
def Sale.append (s : Sale) (l : Line) : Sale := ({ s with lines := s.lines ++ [l], total := s.total + l.amount } : Sale).redue

/-- A list with one element, by its position, changed. -/
def changeAt {α : Type} (f : α → α) : Nat → List α → List α
  | _, [] => []
  | 0, x :: xs => f x :: xs
  | n + 1, x :: xs => x :: changeAt f n xs

/-- A line's bag status set (R5). -/
def Sale.setBag (s : Sale) (i : Nat) (b : BagStatus) : Sale :=
  { s with lines := changeAt (fun l => { l with bag := b }) i s.lines }

/-- R21: the three conditions of completion. -/
def State.saleComplete (s : State) : Bool :=
  (s.sale.state == .settled || s.sale.state == .voided) &&
  (s.sale.commit == .committed || s.sale.commit == .failed) &&
  (s.sale.print == .done || s.sale.print == .doneUncut) &&
  (!s.sale.drawerUsed || s.drawer.state == .closed)

/-- R1, R21: completion: a SALE COMPLETE notice, and the record is discarded; what the verifier kept for the sale goes with it. -/
def State.testCompletion (s : State) : State :=
  if s.saleComplete then
    ((s.notice (.saleComplete s.sale.reference s.sale.state s.sale.receipt s.sale.journalSeq s.sale.commit s.sale.print)).setSale
      .idle).setBagging { s.bagging with kept := [] }
  else s

/-- R19: the verdict on the sale's own append, COMMITTED with a sequence or FAILED; the composer is told (R162), and the completion
test is made (R21). -/
def State.saleVerdict (s : State) (committed : Option Seq) : State :=
  if s.sale.commit = .pending then
    ((s.setSale { s.sale with commit := if committed.isSome then .committed else .failed,
                              journalSeq := committed }).composerVerdict).testCompletion
  else s

/-- R19, R172: the verdict on a taken append: it concerns the sale record only when the receipt number is the record's own. -/
def State.takenVerdict (s : State) (receipt : Option Nat) (committed : Option Seq) : State :=
  if s.sale.receipt = receipt then s.saleVerdict committed else s

/-- R20: the print engine's outcome of the sale's job. -/
def State.printOutcome (s : State) (p : PrintStatus) : State :=
  if s.sale.print = .running then (s.setSale { s.sale with print := p }).testCompletion else s

end Sys2Proof.Machine
end

