-- ==== Sys2Proof/Machine/Journal.lean ====
section
/-! DEFINITION. The journal controller's own operations (Chapter 10): the append queue, the judging of the level, the taking and the
committing of an append, programs, erases and reads as they complete, the entry to FAULT, WRITE IDENTITY, READ JOURNAL, the start-up
scan, and what a hardware reset cuts. -/

namespace Sys2Proof.Machine

/-! ## Level and queue (R171, R176) -/

/-- R176: blocked erase-ahead and the level judged afresh; a change of level places one JOURNAL notice, entry to FULL raises
JOURNAL_FULL, and leaving it withdraws it. -/
def State.judgeJournal (s : State) : State :=
  let before := s.journal.level
  let after := s.journal.judgedLevel s.sale
  let s := s.setJournal { s.journal with blocked := s.journal.targetBlocked, level := after }
  if after = before then s
  else
    let s := s.notice (.journal (.level before after s.journal.available))
    if after = .full then s.raise .journalFull
    else if before = .full then s.withdraw .journalFull
    else s

/-- R176: the level judged where blocked erase-ahead has changed. -/
def State.judgeBlocked (s : State) : State := if s.journal.targetBlocked = s.journal.blocked then s else s.judgeJournal

/-- R172, R176: the entry to FULL where the oldest append cannot be placed because erase-ahead is blocked. A hand-over is none of the moments at
which R176 judges the level afresh, and judges nothing else. -/
def State.enterFull (s : State) : State := if s.journal.stuck s.sale then s.judgeJournal else s

/-- R171: an append is handed over. In FAULT a SALE or VOID is reported FAILED and any other is discarded. -/
def State.handOver (s : State) (a : Append) : State :=
  if s.journal.level = .fault then (if a.isSale then s.saleVerdict none else s)
  else (s.setJournal { s.journal with queue := s.journal.queue ++ [a] }).enterFull

/-- The waiting CALL appends. -/
def Journal.callsWaiting (j : Journal) : Nat := (j.queue.filter (fun a => match a with | .call _ _ _ _ => true | _ => false)).length

/-- Whether a NO_SALE append waits. -/
def Journal.noSaleWaiting (j : Journal) : Bool := j.queue.any (fun a => match a with | .noSale _ => true | _ => false)

/-- The value of the MARK that waits. -/
def Journal.waitingMark (j : Journal) : Option Seq :=
  match j.queue.find? Append.isMark with
  | some (.mark v) => some v
  | _ => none

/-! ## Taking an append (R170, R172) -/

/-- The PAD due when a record of a length takes the next block: it fills the rest of the write block when that is 8 bytes or more. -/
def Journal.padPrograms (j : Journal) (length : Nat) (seq : Seq) : List (Nat × List Byte) :=
  if length ≤ j.rest ∨ j.rest < 8 then []
  else pagePrograms 2 ((j.writeBlock + 1) * blockSize - j.rest) (padBytes j.rest seq)

/-- The address at which a record of a length starts (R169). -/
def Journal.placeOf (j : Journal) (length : Nat) : Nat :=
  if length ≤ j.rest then (j.writeBlock + 1) * blockSize - j.rest else nextBlock j.writeBlock * blockSize

/-- R172: the write point moved past a record of a length; a record that takes the next block makes it the write block. -/
def Journal.moveWritePoint (j : Journal) (length : Nat) : Journal :=
  if length ≤ j.rest then { j with rest := j.rest - length }
  else { j with writeBlock := nextBlock j.writeBlock, rest := blockSize - length }

/-- R170, R172: an append as taken: numbered, placed, its record built and cut into page programs. -/
def Journal.takenOf (j : Journal) (sale : Sale) (a : Append) : TakenAppend :=
  let seq := nextSeq j.lastSeq
  let receipt := nextReceipt j.lastReceipt
  let body := a.body sale j.lastReceipt
  let length := recordLength a.kind body
  { kind := a.kind, seq := seq, receipt := if a.kind.isSale then some receipt else none,
    markValue := match a with | .mark v => some v | _ => none,
    addr := j.placeOf length, length := length,
    programs := j.padPrograms length seq ++ recordPrograms (j.placeOf length) (recordBytes a.kind seq receipt body) }

/-- The next page program of the append in progress is asked for. -/
def Journal.askAppend (j : Journal) (t : TakenAppend) : Journal :=
  match t.programs with
  | (a, bs) :: _ => ({ j with taken := some t } : Journal).ask (.program .append a bs)
  | [] => { j with taken := some t }

/-- R172: the controller takes the append that can be placed; a SALE's or VOID's receipt number is reported to the sale controller
(R19). -/
def State.takeAppend (s : State) : State :=
  match s.journal.takeable s.sale with
  | none => s
  | some a =>
    let t := s.journal.takenOf s.sale a
    let j := ({ s.journal with queue := s.journal.queue.erase a } : Journal).moveWritePoint t.length
    let s := s.setJournal (j.askAppend t)
    (if a.isSale then s.setSale { s.sale with receipt := t.receipt } else s).judgeBlocked

/-! ## Commit and FAULT (R172, R175) -/

/-- R172: the record is committed. -/
def Journal.commit (j : Journal) (t : TakenAppend) : Journal :=
  let j := ({ j with lastSeq := t.seq, taken := none } : Journal).addSeq (t.addr / blockSize) t.seq
  let j := match t.receipt with
    | some r => { j with lastReceipt := r, lastSale := some { seq := t.seq, addr := t.addr } }
    | none => j
  match t.markValue with
  | some v => { j with mark := v }
  | none => j

/-- R172: what follows a commit: the sale controller and the composer learn of a SALE's or VOID's, a MARK's is reported (R178), and the
level is judged (R176). -/
def State.commitAppend (s : State) (t : TakenAppend) : State :=
  let s := s.setJournal (s.journal.commit t).arbitrate
  let s := if t.kind.isSale then s.takenVerdict t.receipt (some t.seq) else s
  let s := match t.markValue with
    | some v => s.notice (.journal (.exportMark v))
    | none => s
  s.judgeJournal

/-- Whether an operation is a read. -/
def ArrayOp.isRead : ArrayOp → Bool
  | .read _ _ _ => true
  | _ => false

/-- R175, items 1 to 4, in the journal: nothing in progress but the reads; an abandoned erase leaves its block DIRTY, with the bytes it had (log
entry 50); an identity of which anything was programmed is DAMAGED. -/
def Journal.stopForFault (j : Journal) (programming : Bool) : Journal :=
  let j := match j.arbiter.erasing with
    | some 0 => j
    | some b => j.setBlock b (some .dirty)
    | none => j
  let damaged := match j.identityWrite with | some w => w.touched || programming | none => false
  ({ j with level := .fault, taken := none, queue := [], blocked := false, identityWrite := none,
            identity := if damaged then .damaged else j.identity,
            arbiter := { running := none, waiting := j.arbiter.waiting.filter ArrayOp.isRead, suspended := none } } :
    Journal).arbitrate

/-- R175: a failed verify puts the journal in FAULT. `programming` says that a program of WRITE IDENTITY failed. -/
def State.enterFault (s : State) (op : FailedOp) (block : Nat) (programming : Bool) : State :=
  let before := s.journal.level
  let taken := s.journal.taken
  let saleWaits := s.journal.queue.any Append.isSale
  let s := s.setJournal (s.journal.stopForFault programming)
  let s := match taken with
    | some t => if t.kind.isSale then s.takenVerdict t.receipt none else s
    | none => s
  let s := if saleWaits then s.saleVerdict none else s
  let s := if before = .full then s.withdraw .journalFull else s
  s.notice (.journal (.fault before s.journal.available op block))

/-! ## Erase-ahead, and the array between two operations (R173, R174) -/

/-- R164, R174: whether a block holds the record that a copy in progress is made from. -/
def Composer.copies (c : Composer) (b : Nat) : Bool :=
  match c.copy with
  | some x => x.addr / blockSize == b
  | none => false

/-- Whether the array is free for an erase of erase-ahead (R173, item 3). -/
def Journal.freeForErase (j : Journal) : Bool :=
  j.arbiter.running.isNone && j.arbiter.waiting.isEmpty && j.arbiter.suspended.isNone && j.identityErase.isNone

/-- R174: the block whose erase erase-ahead can start now. -/
def State.eraseAheadTarget (s : State) : Option Nat :=
  if s.journal.eraseAheadActive && !s.journal.targetBlocked && s.journal.freeForErase then
    s.journal.target.filter (fun b => !s.composer.copies b)
  else none

/-- R174: erase-ahead starts the erase of its target. -/
def State.startEraseAhead (s : State) : State :=
  match s.eraseAheadTarget with
  | some b =>
    s.setJournal { s.journal with
      arbiter := { s.journal.arbiter with running := some (.erase { owner := .eraseAhead, block := b, suspensions := 0,
                                                                    elapsed := 0 }) } }
  | none => s

/-- R173: what becomes of a free array before its last asker asks again: the oldest waiting operation, a suspended erase, an erase that is
ready to start (section 10.10; log entry 54). -/
def State.betweenOperations (s : State) : State := (s.setJournal s.journal.arbitrate).startEraseAhead

/-! ## Operations complete (R166, R168, R174) -/

/-- The next page program of a WRITE IDENTITY is asked for. -/
def Journal.askIdentity (j : Journal) (w : IdentityWrite) : Journal :=
  match w.programs with
  | (a, bs) :: _ => ({ j with identityWrite := some w } : Journal).ask (.program .identity a bs)
  | [] => { j with identityWrite := some w }

/-- A program of the append in progress has passed verify. -/
def State.appendProgrammed (s : State) : State :=
  match s.journal.taken with
  | none => s.setJournal s.journal.arbitrate
  | some t =>
    match t.programs.tail with
    | [] => s.commitAppend t
    | rest =>
      let s := s.betweenOperations
      s.setJournal (s.journal.askAppend { t with programs := rest })

/-- A program of WRITE IDENTITY has passed verify; before the commit byte block 0 is neither erased nor committed, so the identity is DAMAGED,
and after it the identity is WRITTEN (R168). -/
def State.identityProgrammed (s : State) : State :=
  match s.journal.identityWrite with
  | none => s.setJournal s.journal.arbitrate
  | some w =>
    match w.programs.tail with
    | [] =>
      (s.setJournal ({ s.journal with identity := .written w.store w.label, identityWrite := none } : Journal).arbitrate).notice
        (.journal .identityWritten)
    | rest =>
      let s := (s.setJournal { s.journal with identity := .damaged }).betweenOperations
      s.setJournal (s.journal.askIdentity { w with programs := rest, touched := true })

/-- R166: a program passes verify when every byte reads back as the value given; `verified` says that the array did its work. -/
def programPasses (m : List Host.Cell) (a : Nat) (bs : List Byte) (verified : Bool) : Bool :=
  verified && Memory.readBytes (Memory.program m a bs) a bs.length == bs

/-- A page program and its verify complete (R166). -/
def State.programEnds (s : State) (verified : Bool) : State :=
  match s.journal.arbiter.running with
  | some (.program owner a bs) =>
    let m := s.journal.array
    let pass := programPasses m a bs verified
    let array := if verified then Memory.program m a bs else Memory.failedProgram m a bs s.fresh
    let s := (if verified then s else s.useFresh).setJournal
      { s.journal with array := array, arbiter := { s.journal.arbiter with running := none } }
    if pass then
      match owner with
      | .append => s.appendProgrammed
      | .identity => s.identityProgrammed
      | _ => s.setJournal s.journal.arbitrate
    else s.enterFault .program (a / blockSize) (owner == .identity)
  | _ => s

/-- R174: an erase has passed verify: the block is ERASED, and the last sale record is none if the block held it. -/
def Journal.blockErasedNow (j : Journal) (b : Nat) : Journal :=
  let j := j.setBlock b none
  match j.lastSale with
  | some l => if l.addr / blockSize = b then { j with lastSale := none } else j
  | none => j

/-- R168: a DAMAGED block 0 has been erased, and the identity record is programmed. -/
def Journal.identityErased (j : Journal) : Journal :=
  let j := { j with identity := .blank }
  match j.identityWrite with
  | some w => j.askIdentity { w with erase := false }
  | none => j.arbitrate

/-- A block erase and its verify complete (R166, R174). Until then every byte of the block reads as before (log entry 64). -/
def State.eraseEnds (s : State) (verified : Bool) : State :=
  match s.journal.arbiter.running with
  | some (.erase e) =>
    let j := { s.journal with arbiter := { s.journal.arbiter with running := none } }
    if verified then
      let j := { j with array := Memory.erase j.array e.block }
      match e.owner with
      | .identity => (s.setJournal j.identityErased).judgeJournal
      | _ => (s.setJournal (j.blockErasedNow e.block).arbitrate).judgeJournal
    else
      let j := { j with array := Memory.failedErase j.array e.block s.fresh }
      let j := if e.block = 0 then j else j.setBlock e.block (some .dirty)
      (s.useFresh.setJournal j).enterFault .erase e.block false
  | _ => s

/-! ## READ JOURNAL (R177) -/

/-- R177: the block of the table that names a sequence and is not being erased. -/
def Journal.blockOf (j : Journal) (q : Seq) : Option Nat :=
  ((j.blocks.find? (fun x => x.2.names q)).map (fun x => x.1)).filter (fun b => decide (j.arbiter.erasing ≠ some b))

/-- The KIND of READ JOURNAL (section 11.5). -/
def readJournalKind : Byte := 0x17

/-- The READ JOURNAL in progress is answered: its reserved place takes the reply (R182). -/
def State.answerReader (s : State) (tag : Byte) (b : ReplyBody) : State :=
  let s := s.setJournal { s.journal with reader := none }
  let s := s.setLink { s.link with reserved := none }
  s.reply readJournalKind tag b

/-- The length of a header read at an offset of a block: 8 bytes, the part of a header that every record has, or fewer at the block's end (log entry
29). -/
def headerRead (walk : Nat) : Nat := min 8 (blockSize - walk)

/-- R177: the next read is asked for, unless an erase of the block has begun since the last one. -/
def State.readerAsks (s : State) (r : JournalReader) (a n : Nat) : State :=
  let s := s.betweenOperations
  if s.journal.arbiter.erasing = some r.block then s.answerReader r.tag (.refused .noRecord)
  else s.setJournal (({ s.journal with reader := some r } : Journal).ask (.read .reader a n))

/-- R177: a header has been read: the record is met, or the next header is read, or the record is no longer there. -/
def State.readerHeader (s : State) (r : JournalReader) : State :=
  match headerAt s.journal.array (r.block * blockSize + r.walk) ((r.block + 1) * blockSize) with
  | none => s.answerReader r.tag (.refused .noRecord)
  | some h =>
    if h.kind = .pad then s.answerReader r.tag (.refused .noRecord)
    else if h.seq = r.seq then
      s.readerAsks { r with found := some (h.kind, h.length) } (h.addr + r.offset) (min 96 (h.length - r.offset))
    else if blockSize ≤ r.walk + h.length then s.answerReader r.tag (.refused .noRecord)
    else
      s.readerAsks { r with walk := r.walk + h.length } (r.block * blockSize + r.walk + h.length) (headerRead (r.walk + h.length))

/-- R177: a read of READ JOURNAL completes. -/
def State.readerRead (s : State) (a n : Nat) : State :=
  match s.journal.reader with
  | none => s
  | some r =>
    if s.journal.isErased r.block then s.answerReader r.tag (.refused .noRecord)
    else
      match r.found with
      | none => s.readerHeader r
      | some (kind, length) =>
        s.answerReader r.tag (.done (.record r.seq r.offset length kind (Memory.readBytes s.journal.array a n)))

/-! ## Reads complete -/

/-- A read of the scan completes: the next 256 bytes are read, until the array's end (R179). -/
def Journal.scanRead (j : Journal) : Journal :=
  match j.scan with
  | some a => if a < arraySize then ({ j with scan := some (a + pageSize) } : Journal).ask (.read .scan a pageSize) else j
  | none => j

/-- An array read completes, and its bytes go to whoever asked for them (R173). -/
def State.readEnds (s : State) : State :=
  match s.journal.arbiter.running with
  | some (.read owner a n) =>
    let s := s.setJournal { s.journal with arbiter := { s.journal.arbiter with running := none } }
    let s := match owner with
      | .reader => s.readerRead a n
      | .copy => s.betweenOperations.copyRead a n
      | .scan => s.setJournal s.journal.scanRead
      | _ => s
    s.setJournal s.journal.arbitrate
  | _ => s

/-! ## The start-up scan (R179) -/

/-- The later of two records by sequence. -/
def laterRecord (a : Option FoundRecord) (b : FoundRecord) : Option FoundRecord :=
  match a with
  | none => some b
  | some a => if seqHigher b.seq a.seq then some b else some a

/-- The record with the highest sequence. -/
def highestRecord (rs : List FoundRecord) : Option FoundRecord := rs.foldl laterRecord none

/-- The lowest and highest sequences of a block's committed records. -/
def seqRange : List FoundRecord → Option (Seq × Seq)
  | [] => none
  | r :: rs => some (rs.foldl (fun x r => (if seqHigher x.1 r.seq then r.seq else x.1, if seqHigher r.seq x.2 then r.seq else x.2))
      (r.seq, r.seq))

/-- R179: the state of a ring block as the scan finds it, `none` for ERASED, with its walk. -/
def scanBlock (m : List Host.Cell) (b : Nat) : Option BlockState × Walk :=
  let nothing : Walk := { records := [], torn := false, openAt := none }
  if Memory.blockErased m b then (none, nothing)
  else
    match headerAt m (b * blockSize) ((b + 1) * blockSize) with
    | none => (some .dirty, nothing)
    | some _ =>
      let w := walkBlock m b
      (some (.written (seqRange w.records)), w)

/-- The ring blocks. -/
def ringBlocks : List Nat := (List.range 1023).map (· + 1)

/-- The ring blocks that are not ERASED, as the scan finds them. -/
def scanRing (m : List Host.Cell) : List (Nat × BlockState × Walk) :=
  ringBlocks.filterMap (fun b =>
    match scanBlock m b with
    | (some st, w) => some (b, st, w)
    | (none, _) => none)

/-- R179: the bytes left in the write block: those after its last committed record when it is open, and 0 when it is closed. -/
def restOf (ring : List (Nat × BlockState × Walk)) (b : Nat) : Nat :=
  match ring.find? (fun x => x.1 == b) with
  | some (_, _, w) => (match w.openAt with | some a => (b + 1) * blockSize - a | none => 0)
  | none => 0

/-- R179: the last receipt number: of the SALE or VOID record or of the MARK, whichever has the higher sequence. -/
def scanReceipt (m : List Host.Cell) (sale mark : Option FoundRecord) : Nat :=
  let ofSale := fun r : FoundRecord => natOf (Memory.readBytes m (r.addr + 8) 3)
  let ofMark := fun r : FoundRecord => natOf (Memory.readBytes m (r.addr + 12) 3)
  match sale, mark with
  | some a, some b => if seqHigher b.seq a.seq then ofMark b else ofSale a
  | some a, none => ofSale a
  | none, some b => ofMark b
  | none, none => 0

/-- R179: the journal's state as the scan sets it from the array. -/
def Journal.scanned (j : Journal) : Journal :=
  let m := j.array
  let ring := scanRing m
  let records := ring.flatMap (fun x => x.2.2.records)
  let last := highestRecord records
  let sale := highestRecord (records.filter (fun r => r.kind.isSale))
  let mark := highestRecord (records.filter (fun r => r.kind == .mark))
  let block := match last with | some r => r.addr / blockSize | none => 1023
  { j with identity := readIdentity m,
           writeBlock := block,
           rest := match last with | some _ => restOf ring block | none => 0,
           blocks := ring.map (fun x => (x.1, x.2.1)),
           lastSeq := match last with | some r => r.seq | none => 0,
           lastReceipt := scanReceipt m sale mark,
           lastSale := sale.map (fun r => { seq := r.seq, addr := r.addr }),
           mark := match mark with | some r => BitVec.ofNat 32 (natOf (Memory.readBytes m (r.addr + 8) 4)) | none => 0,
           scan := none }

/-- The torn records and the DIRTY blocks that the scan found. -/
def scanCounts (m : List Host.Cell) : Nat × Nat :=
  let ring := scanRing m
  ((ring.filter (fun x => x.2.2.torn)).length, (ring.filter (fun x => x.2.1 == BlockState.dirty)).length)

/-- Whether an operation is a read of the scan. -/
def ArrayOp.isScan : ArrayOp → Bool
  | .read .scan _ _ => true
  | _ => false

/-- The scan's reads leave the arbiter. -/
def Journal.dropScan (j : Journal) : Journal :=
  ({ j with arbiter := { j.arbiter with running := j.arbiter.running.filter (fun op => !op.isScan),
                                        waiting := j.arbiter.waiting.filter (fun op => !op.isScan) } } : Journal).arbitrate

/-- R179, R184: the end of the scan: the journal's state, the level without a level notice (log entry 27), one JOURNAL notice, and the
part in UNCONFIGURED with its PART notice. -/
def State.scanEnds (s : State) : State :=
  let j := s.journal.scanned.dropScan
  let j := { j with blocked := j.targetBlocked, level := j.judgedLevel s.sale }
  let n := scanCounts j.array
  let s := (s.setJournal j).notice (.journal (.scanEnd j.level j.identity j.lastSeq j.mark n.1 n.2))
  (s.setLink { s.link with part := .unconfigured }).notice (.part .unconfigured (some (s.link.straps, j.identity)))

/-! ## What a hardware reset cuts (R166) -/

/-- Whether the next page program of an asker is that of its commit byte (R168, R172). -/
def Journal.atCommit (j : Journal) : ArrayOwner → Bool
  | .append => j.taken.any (fun t => decide (t.programs.length ≤ 1))
  | .identity => j.identityWrite.any (fun w => decide (w.programs.length ≤ 1))
  | _ => false

/-- R166, R173: the array after a reset has cut the operation running and the suspended erase. -/
def Journal.cutArray (j : Journal) (k : Nat) : List Host.Cell :=
  let m := match j.arbiter.running with
    | some (.program o a bs) => if j.atCommit o then Memory.cutCommit j.array a bs k else Memory.cutProgram j.array a bs k
    | some (.erase e) => Memory.cutErase e.block k j.array
    | _ => j.array
  match j.arbiter.suspended with
  | some e => Memory.cutErase e.block (k + 1) m
  | none => m

end Sys2Proof.Machine
end

