-- ==== Sys2Proof/Machine/Supply.lean ====
section
/-! DEFINITION. What the cluster unit's supply and station changes mean to the lane: the kick that a drawer's grant fires, lone
releases, entry to LISTEN and entry to LONE (R45, R51, R52, R57 to R60, R126, R127). -/

namespace Sys2Proof.Machine

/-! ## Drawer states and claims (R126, R127, R133) -/

/-- R133: the drawer record replaced; a change of drawer state while the part is RUNNING places one DRAWER notice. -/
def State.putDrawer (s : State) (d : Drawer) (handed : Bool) : State :=
  let t := s.setDrawer d
  if d.state ≠ s.drawer.state ∧ s.link.part = .running then
    t.notice (.drawer s.drawer.state d.state (if d.state = .jammed then d.jam else none) d.retryCount handed)
  else t

/-- R127: entry to KICKING: the solenoid is on, the pulse timer starts, the opened mark is clear. -/
def State.enterKicking (s : State) : State :=
  s.putDrawer { s.drawer with state := .kicking, claimTimer := none, pulseTimer := some 0, openedMark := false } false

/-- R126: a grant of 6 units in CLAIMING starts the kick; in any other state it fires nothing. -/
def State.tellDrawer (s : State) : State :=
  if s.drawer.state = .claiming ∧ 6 ≤ s.cluster.countedHolding .drawer then s.enterKicking else s

/-- The consumers learn what they have been granted (R57). -/
def State.tellGrants (s : State) : State := s.tellPrinter.tellDrawer

/-- R126: entry to CLAIMING: the claim timer starts, and a claim of 6 is asked for. In LONE it may be granted at once (R60). -/
def State.enterClaiming (s : State) : State :=
  let s := s.putDrawer { s.drawer with state := .claiming, claimTimer := some 0 } false
  (s.setCluster (s.cluster.askClaim .drawer 6 6)).tellDrawer

/-- R125: a kick request is taken in CLOSED and JAMMED; in any other state it is refused and changes nothing. -/
def Drawer.takesKick (d : Drawer) : Bool := d.state == .closed || d.state == .jammed

/-- R125: a kick request. -/
def State.requestKick (s : State) : State :=
  if s.drawer.takesKick then (s.setDrawer { s.drawer with retryCount := 0, jam := none }).enterClaiming else s

/-! ## Entry to LISTEN (R45) -/

/-- R45: the cluster unit on entry to LISTEN. -/
def Cluster.listening (c : Cluster) : Cluster :=
  { c with state := .listen, loneCause := none, listen := some 0, retry := none, retryPassed := false, duplicate := false,
           budgetMark := false, peers := [],
           queue := (c.queue.filter (fun e => e.station == c.number)).map (fun e => { e with ticket := none }),
           learned := false, silence := [], fullCount := 0, backCount := 0, failures := [] }

/-- R36, R44, R45: entry to LISTEN, with its CALL, LINE MODE and STATION notices, in this order (log entry 59). The own entry's ticket becoming NONE
places a CALL notice (log entry 28). -/
def State.enterListen (s : State) : State :=
  ((s.updateCluster s.cluster.listening).setMode .full .listen).stationNotice s.cluster.state

/-- R52: the retry timer has passed and both holdings are 0, so the station leaves LONE. -/
def State.leaveLoneWhenFree (s : State) : State :=
  if s.cluster.state = .lone ∧ s.cluster.retryPassed = true ∧ s.cluster.ownSum = 0 then s.enterListen else s

/-! ## Releases (R57, R60) -/

/-- R58: the top-up that a taken or lone release brings. -/
def State.topupAfterRelease (s : State) : State :=
  if s.cluster.topupDue s.engine.headMax s.engine.job.isSome then
    s.setCluster (s.cluster.askTopup (2 + s.engine.headMax - s.cluster.printer.holding))
  else s

/-- R60: a lone release: the holding falls to 0 at once; a release of units is a retry event and may bring a top-up, and R52 follows
it. -/
def State.loneRelease (s : State) (k : Consumer) : State :=
  if (s.cluster.consumer k).holding = 0 then s
  else
    let c := s.cluster.setConsumer k { s.cluster.consumer k with holding := 0 }
    (s.setCluster c.retryEvent).topupAfterRelease.tellGrants.leaveLoneWhenFree

/-- R57: a consumer asks for release of its whole holding. -/
def State.releaseHolding (s : State) (k : Consumer) : State :=
  let s := s.setCluster (s.cluster.clearRequest k)
  if s.cluster.state = .lone then s.loneRelease k else s.setCluster (s.cluster.requestRelease k)

/-! ## Entry to LONE (R51) -/

/-- R51, items 1 and 2: the cluster unit as it goes LONE. The frame on the bus, if any, has had its outcome. -/
def Cluster.goneLone (c : Cluster) (cause : LoneCause) : Cluster :=
  let c := c.leaveBus
  { c with state := .lone, loneCause := some cause, listen := none, rollTimer := none, retry := none, retryPassed := false,
           silence := [], peers := [], queue := c.queue.filter (fun e => e.station == c.number), failures := [] }

/-- R51, item 3: the printer's units clipped into the lone budget. -/
def Cluster.clipped (c : Cluster) : Cluster :=
  c.setConsumer .printer { c.printer with holding := min c.printer.holding (loneBudget - c.drawer.holding) }

/-- R51, item 4: a pending request applied as a lone request (R60, R64). -/
def State.applyLone (s : State) : OutBody → State
  | .claim k lo hi => (s.setCluster (s.cluster.loneClaim k lo hi false)).tellGrants
  | .topup k lo hi => (s.setCluster (s.cluster.loneClaim k lo hi true)).tellGrants
  | .release k _ => s.loneRelease k
  | .callRaise r => s.setCluster (s.cluster.loneCall r)
  | .callClear _ => s.setCluster (s.cluster.loneCall 0)
  | .expire _ => s
  | .roll => s

/-- R51: the claim asked on behalf of a printer that was clipped to 0 with a job, for as long as it holds less than its minimum and has not asked yet (log
entry 70). -/
def State.askForClipped (s : State) (clippedToZero : Bool) : State :=
  if clippedToZero = true ∧ s.engine.job.isSome = true ∧ s.cluster.printer.request = .idle ∧ s.cluster.printer.holding < 3 then
    s.setCluster (s.cluster.loneClaim .printer 3 s.engine.claimMax false)
  else s

/-- R67: one CALL notice when the own entry or its place differs from what it was. -/
def State.callNoticeIfMoved (s : State) (before : Cluster) : State :=
  if s.cluster.ownEntry = before.ownEntry ∧ s.cluster.ownPlace = before.ownPlace then s else s.notice s.cluster.callNotice

/-- R51: entry to LONE. However often it changes the own entry and its place, it places one CALL notice (log entry 28). -/
def State.enterLone (s : State) (cause : LoneCause) : State :=
  let before := s.cluster
  let s := s.setCluster (s.cluster.goneLone cause)
  let units := s.printerHolding
  let s := s.setCluster s.cluster.clipped
  let fell := s.engine.job.isSome && decide (s.printerHolding < units)
  let s := if fell then s.holdingFell else s
  let zero := fell && decide (s.cluster.printer.holding = 0)
  let frames := s.cluster.out.map (fun f => f.body)
  let s := s.setCluster { s.cluster with out := [], expireWaiting := [] }
  let s := frames.foldl State.applyLone s
  let s := s.setCluster s.cluster.retryEvent
  let s := (s.askForClipped zero).tellGrants
  let s := if cause = .line ∨ cause = .alone then s.setCluster { s.cluster with retry := some 0 } else s
  (s.callNoticeIfMoved before).stationNotice before.state

end Sys2Proof.Machine
end

