-- ==== Sys2Proof/Machine/Drawer.lean ====
section
/-! DEFINITION. The drawer controller's own operations (R124 to R134): openings, entries to its states, its timers' expiries, the DRAWER
watch, and its part of LANE RESET. -/

namespace Sys2Proof.Machine

/-- R130, items 1 and 2: an opening is counted: DRAWER_JAM is withdrawn, and a waiting no-sale mark is handed over as a NO_SALE
append. -/
def State.countOpening (s : State) : State :=
  let source := s.drawer.noSaleSource
  let marked := s.drawer.noSale
  let s := s.withdraw .drawerJam
  if marked then (s.setDrawer { s.drawer with noSale := false }).handOver (.noSale source) else s

/-- The drawer record with every timer but the open timer stopped and no jam cause. -/
def Drawer.settle (d : Drawer) : Drawer :=
  { d with jam := none, claimTimer := none, pulseTimer := none, confirmTimer := none, gapTimer := none }

/-- R130: entry to OPEN. -/
def State.enterOpen (s : State) : State :=
  let handed := s.drawer.noSale
  let s := s.countOpening
  s.putDrawer { s.drawer.settle with state := .opened, openTimer := some 0, alarmAsked := false } handed

/-- R130: entry to FORCED. -/
def State.enterForced (s : State) : State :=
  let s := (s.raise .drawerForced).requestTone .alert .drawerController
  s.putDrawer { s.drawer.settle with state := .forced, openTimer := some 0, alarmAsked := false } false

/-- R129: entry to JAMMED. -/
def State.enterJammed (s : State) (cause : JamCause) : State :=
  let s := (s.raise .drawerJam).requestTone .alert .drawerController
  s.putDrawer { s.drawer.settle with state := .jammed, jam := some cause } false

/-- R124: entry to CLOSED, reported to the sale controller in the same step (R21). -/
def State.enterClosed (s : State) (handed : Bool) : State :=
  (s.putDrawer { s.drawer.settle with state := .closed, openTimer := none } handed).testCompletion

/-- R126 to R130: a DRAWER watch departure while the part is RUNNING. -/
def State.drawerDeparts (s : State) : State :=
  match s.drawer.state with
  | .closed => s.enterForced
  | .claiming => ((s.setDrawer { s.drawer with claimTimer := none }).releaseHolding .drawer).enterOpen
  | .kicking => s.setDrawer { s.drawer with openedMark := true }
  | .confirm => s.enterOpen
  | .retryGap => s.enterOpen
  | .jammed => s.enterOpen
  | .opened => s
  | .forced => s

/-- R130: a DRAWER watch return while the part is RUNNING. -/
def State.drawerReturns (s : State) : State :=
  match s.drawer.state with
  | .opened => (s.stopDrawerAlarm.withdraw .drawerOpenLong).enterClosed false
  | .forced => (s.stopDrawerAlarm.withdraw .drawerOpenLong).enterClosed false
  | _ => s

/-- R124: before the part is RUNNING the controller follows the switch and does nothing else. -/
def State.drawerFollows (s : State) (matching : Bool) : State :=
  match s.drawer.state, matching with
  | .closed, false => s.setDrawer { s.drawer with state := .opened }
  | .opened, true => s.setDrawer { s.drawer with state := .closed }
  | _, _ => s

/-- A change of the DRAWER watch's matching mark. -/
def State.drawerWatch (s : State) (matching : Bool) : State :=
  match s.link.part with
  | .running => if matching then s.drawerReturns else s.drawerDeparts
  | _ => s.drawerFollows matching

/-- R126: the claim timer reaches 5 s. -/
def State.claimExpires (s : State) : State :=
  match s.drawer.state, s.drawer.claimTimer with
  | .claiming, some _ => ((s.setDrawer { s.drawer with claimTimer := none }).releaseHolding .drawer).enterJammed .supply
  | _, _ => s

/-- R127: what follows the pulse, by the opened mark and the watch. -/
def State.afterPulse (s : State) : State :=
  if s.drawer.openedMark then
    if s.sense.watchDrawer.matching then
      let handed := s.drawer.noSale
      s.countOpening.enterClosed handed
    else s.enterOpen
  else s.putDrawer { s.drawer with state := .confirm, confirmTimer := some 0 } false

/-- R127: the pulse timer reaches the kick width: the solenoid is off, the units are released, and the state is left. -/
def State.pulseEnds (s : State) : State :=
  match s.drawer.state, s.drawer.pulseTimer with
  | .kicking, some _ => ((s.setDrawer { s.drawer with pulseTimer := none }).releaseHolding .drawer).afterPulse
  | _, _ => s

/-- R128: the confirm timer reaches 500 ms. -/
def State.confirmExpires (s : State) : State :=
  match s.drawer.state, s.drawer.confirmTimer with
  | .confirm, some _ =>
    if s.drawer.retryCount = 0 then
      s.putDrawer { s.drawer with state := .retryGap, retryCount := 1, confirmTimer := none, gapTimer := some 0 } false
    else s.enterJammed .noOpen
  | _, _ => s

/-- R128: the gap timer reaches 300 ms. -/
def State.gapExpires (s : State) : State :=
  match s.drawer.state, s.drawer.gapTimer with
  | .retryGap, some _ => (s.setDrawer { s.drawer with gapTimer := none }).enterClaiming
  | _, _ => s

/-- R130: whether the open timer acts: it runs, in OPEN or FORCED, with the part RUNNING. -/
def State.openTimerActs (s : State) : Bool :=
  s.drawer.openTimer.isSome && (s.drawer.state == .opened || s.drawer.state == .forced) && s.link.part == .running

/-- R130: the open timer reaches 30 s; ALARM is asked once per opening. -/
def State.openAlarm (s : State) : State :=
  if s.openTimerActs = true ∧ s.drawer.alarmAsked = false then
    (s.setDrawer { s.drawer with alarmAsked := true, openTimer := some (sec 30) }).requestTone .alarm .drawerController
  else s

/-- R130: the open timer reaches 60 s. -/
def State.openLong (s : State) : State :=
  if s.openTimerActs then (s.setDrawer { s.drawer with openTimer := none }).raise .drawerOpenLong else s

/-- R134, items 4 and 5: the drawer record at rest, its state taken from the switch. A drawer left OPEN is an opening of its own, for which
ALARM has not been asked (log entry 45). -/
def Drawer.laneReset (d : Drawer) (shut : Bool) : Drawer :=
  { d.settle with state := if shut then .closed else .opened, retryCount := 0, openedMark := false, noSale := false,
                  openTimer := if shut then none else some 0, alarmAsked := false }

/-- R134: LANE RESET at the drawer. -/
def State.drawerLaneReset (s : State) : State :=
  let s := (s.setDrawer { s.drawer with claimTimer := none, pulseTimer := none, confirmTimer := none, gapTimer := none,
                                        openTimer := none }).releaseHolding .drawer
  s.putDrawer (s.drawer.laneReset s.sense.watchDrawer.matching) false

end Sys2Proof.Machine
end

