-- ==== Sys2Proof/Machine/Bagging.lean ====
section
/-! DEFINITION. The bagging verifier's own operations (R93 to R103): postings, voids, settle and baseline events, deadlines, the clearing
of the list, and the attendant clear. -/

namespace Sys2Proof.Machine

/-- Grams to bagging divisions (R94). -/
def baggingDivisions (grams : Nat) : Nat := gramsToDivisions grams 10

/-- R103: a BAGGING notice carries its result and the number of entries left. -/
def State.baggingNotice (s : State) (r : BaggingResult) : State := s.notice (.bagging r s.bagging.entries.length)

/-- The sale's line of an index given a bag status, in the step of the list's change (R5). -/
def State.setLineBag (s : State) (i : Nat) (b : BagStatus) : State := s.setSale (s.sale.setBag i b)

/-- R94: a PLACE entry posted at the tail; its weight and tolerance are kept for as long as the sale lasts. -/
def State.postPlace (s : State) (line : Nat) (expected tolerance : Nat) : State :=
  s.setBagging { s.bagging with
    entries := s.bagging.entries ++ [{ line := line, removal := false, expected := expected, tolerance := tolerance, age := 0,
                                       overdue := false }],
    kept := s.bagging.kept ++ [{ line := line, expected := expected, tolerance := tolerance }] }

/-- R94: what the verifier keeps of a line. -/
def Bagging.keptOf (b : Bagging) (line : Nat) : Option KeptWeight := b.kept.find? (fun k => k.line == line)

/-- R94, R100: a REMOVE entry, the negative of the line's kept weight, posted at the tail. -/
def State.postRemove (s : State) (line : Nat) : State :=
  match s.bagging.keptOf line with
  | some k =>
    s.setBagging { s.bagging with
      entries := s.bagging.entries ++ [{ line := line, removal := true, expected := -k.expected, tolerance := k.tolerance, age := 0,
                                         overdue := false }] }
  | none => s

/-- Whether an entry of the list is overdue. -/
def Bagging.anyOverdue (b : Bagging) : Bool := b.entries.any (fun e => e.overdue)

/-- R99: BAG_TIMEOUT is withdrawn when no entry left is overdue. -/
def State.withdrawTimeout (s : State) : State := if s.bagging.anyOverdue then s else s.withdraw .bagTimeout

/-- R100: a void acts on the line's bag status. -/
def State.baggingVoid (s : State) (i : Nat) (b : BagStatus) : State :=
  match b with
  | .pending =>
    ((s.setBagging { s.bagging with entries := s.bagging.entries.filter (fun e => e.line != i) }).setLineBag i .skipped).withdrawTimeout
  | .bagged => (s.postRemove i).setLineBag i .removalPending
  | _ => s

/-- R101: the whole list is cleared; lines, reasons and baseline stay. -/
def State.clearExpectations (s : State) : State := s.setBagging { s.bagging with entries := [] }

/-- R97: the smallest prefix of the list that matches a change, by its length. `sum` and `tol` are those of the entries before. -/
def matchPrefix (delta : Int) : Int → Nat → Nat → List Expectation → Option Nat
  | _, _, _, [] => none
  | sum, tol, n, e :: es =>
    let sum := sum + e.expected
    let tol := tol + e.tolerance
    if (delta - sum).natAbs ≤ tol then some (n + 1) else matchPrefix delta sum tol (n + 1) es

/-- R96: the at-baseline band. -/
def atBaseline (delta : Int) : Bool := decide (-2 ≤ delta) && decide (delta ≤ 2)

/-- R96: an at-baseline event. Each withdrawal that changes the own entry places its CALL notice (log entry 28). -/
def State.settleAtBaseline (s : State) : State :=
  (((s.withdraw .unexpectedItem).withdraw .itemRemoved).withdraw .bagMismatch).baggingNotice .atBaseline

/-- R97: a found event: the first n entries leave the list, and the baseline becomes W. Each withdrawal that changes the own entry places its CALL
notice (log entry 28). -/
def State.settleFound (s : State) (n : Nat) (w : Int) : State :=
  let out := s.bagging.entries.take n
  let s := s.setBagging { s.bagging with entries := s.bagging.entries.drop n, baseline := some w }
  let s := out.foldl (fun s e => s.setLineBag e.line (if e.removal then .removed else .bagged)) s
  ((s.withdraw .bagMismatch).withdrawTimeout).baggingNotice (.matched (out.map (fun e => e.line)))

/-- R98: an event that is neither at baseline nor found. -/
def State.settleNotFound (s : State) (delta : Int) : State :=
  if !s.bagging.entries.isEmpty then (s.raise .bagMismatch).baggingNotice (.mismatch delta)
  else if 0 < delta then (s.raise .unexpectedItem).baggingNotice (.unexpected delta)
  else (s.raise .itemRemoved).baggingNotice (.removed delta)

/-- R96: a settle event with weight W. -/
def State.settleEvent (s : State) (w : Int) : State :=
  if s.sale.state = .opened ∨ s.sale.state = .tender then
    match s.bagging.baseline with
    | none => s
    | some base =>
      let delta := w - base
      if atBaseline delta then s.settleAtBaseline
      else
        match matchPrefix delta 0 0 0 s.bagging.entries with
        | some n => s.settleFound n w
        | none => s.settleNotFound delta
  else s.setBagging { s.bagging with baseline := some w }

/-- R95: a baseline event changes the baseline and nothing else. -/
def State.baselineEvent (s : State) (w : Int) : State := s.setBagging { s.bagging with baseline := some w }

/-- R99: the deadline of a line's entry passes. -/
def State.deadlinePasses (s : State) (line : Nat) : State :=
  if s.bagging.entries.any (fun e => e.line == line && !e.overdue) then
    ((s.setBagging { s.bagging with
        entries := s.bagging.entries.map (fun e => if e.line = line then { e with overdue := true } else e) }).raise
      .bagTimeout).baggingNotice (.overdue line)
  else s

/-- R102: the verifier accepts a clear when the bagging channel is stable; the weight is that of its latest weight formed. -/
def State.clearWeight (s : State) : Option Int := if s.scale.bagging.stable then s.scale.bagging.gross else none

/-- R102: a successful clear with bagging reasons, at the clear weight. -/
def State.baggingCleared (s : State) (w : Int) : State :=
  let out := s.bagging.entries
  let s := s.setBagging { s.bagging with entries := [], baseline := some w }
  let s := out.foldl (fun s e => s.setLineBag e.line .accepted) s
  s.baggingNotice (.accepted (out.map (fun e => e.line)))

end Sys2Proof.Machine
end

