-- ==== Sys2Proof/Machine/Capture.lean ====
section
/-! DEFINITION. The capture unit's own operations (R85 to R92): outcomes, and the judging of a produce weight. -/

namespace Sys2Proof.Machine

/-- R90: a capture in flight ends without a line: the record returns to NONE, the reservation ends, one notice is placed. -/
def State.endCapture (s : State) (o : CaptureOutcome) : State :=
  match s.capture.flight with
  | none => s
  | some _ =>
    let s := (s.setCapture { s.capture with flight := none }).setSale { s.sale with reservation := none }
    s.notice (.capture o none s.sale.total)

/-- R94: the tolerance of a capture's expectation. -/
def captureTolerance (expected : Nat) : Nat := max 3 (expected / 20)

/-- R12, R89: the WEIGHED line of a capture. -/
def CaptureRec.line (c : CaptureRec) (grams : Nat) : Line :=
  { kind := .weighed grams, desc := c.desc, price := c.price, amount := weighedAmount grams c.price, voided := false,
    bag := if c.bag then .pending else .skipped, expected := none }

/-- R89: a capture ends CAPTURED at a net weight in grams. -/
def State.captured (s : State) (c : CaptureRec) (grams : Nat) : State :=
  let index := s.sale.lines.length
  let line := c.line grams
  let s := s.setSale (({ s.sale with reservation := none } : Sale).append line)
  let s := if c.bag then s.postPlace index (baggingDivisions grams) (captureTolerance (baggingDivisions grams)) else s
  let s := s.setCapture { flight := none, interlock := true }
  s.notice (.capture .captured
    (some { index := index, grams := grams, price := c.price, amount := line.amount, bag := line.bag }) s.sale.total)

/-- R88: whether a produce weight qualifies. -/
def qualifies (st : ChannelState) (stable : Bool) (net : Int) : Bool := st == .ready && stable && decide (20 ≤ net)

/-- R87, R92: the band of grosses that releases the interlock. -/
def nearZero (gross : Int) : Bool := decide (-2 ≤ gross) && decide (gross ≤ 2)

/-- R87, R88, R92: the capture unit acts on a produce weight: its state, stability, gross and net in divisions. -/
def State.captureWeight (s : State) (st : ChannelState) (stable : Bool) (gross net : Int) : State :=
  let zero := nearZero gross
  let interlock := s.capture.interlock && !zero
  match s.capture.flight with
  | none => s.setCapture { s.capture with interlock := interlock }
  | some c =>
    match c.phase with
    | .waitZero =>
      if zero then s.setCapture { flight := some { c with phase := .waitStable }, interlock := false } else s
    | .waitStable =>
      let s := s.setCapture { s.capture with interlock := interlock }
      if qualifies st stable net && (!c.bag || decide (s.bagging.entries.length < 4)) then s.captured c (net * 5).toNat
      else s

end Sys2Proof.Machine
end

