-- ==== Sys2Proof/Machine/Scale.lean ====
section
/-! DEFINITION. The scale front end (Chapter 4): readings, net samples and weights, channel states, zero tracking, the generator, the
forced cutoff, and the WEIGHT notice. -/

namespace Sys2Proof.Machine

/-! ## The WEIGHT notice (R84) -/

/-- What a WEIGHT notice would carry now. -/
def Scale.report (c : Scale) : WeightReport :=
  { produce := c.produce.state, net := c.produce.displayedNet, stable := c.produce.stable, tare := c.produce.tare.map (· * 5),
    bagging := c.bagging.state }

/-- R84: a WEIGHT notice is placed. It counts as the last WEIGHT notice whether or not a full queue drops it (log entry 43). -/
def State.weightNotice (s : State) : State :=
  (s.setScale { s.scale with lastReport := some s.scale.report }).notice (.weight s.scale.report)

/-- R84: whether the produce state, the displayed net or stability differs from what the last WEIGHT notice carried. -/
def Scale.produceDiffers (c : Scale) : Bool :=
  match c.lastReport with
  | none => true
  | some r => r.produce != c.report.produce || r.net != c.report.net || r.stable != c.report.stable

/-! ## Weights (R73 to R79) -/

/-- The newest n of a list kept newest last. -/
def newest {α : Type} (n : Nat) (l : List α) : List α := l.drop (l.length - n)

/-- R73, R75: the histories are emptied, and with them the latest weight. -/
def Channel.emptied (c : Channel) : Channel :=
  { c with positive := none, samples := [], weights := [], stable := false, gross := none, net := none }

/-- R77: whether a gross lies in the zero window. -/
def inZeroWindow (gross : Int) : Bool := decide (-300 ≤ gross) && decide (gross ≤ 300)

/-- R77: the zero reference and the initial zero take a filtered value, the weight history is emptied, and the channel enters READY. The
latest gross is from the new reference (log entry 32). -/
def Channel.takeZero (c : Channel) (filtered : Int) : Channel :=
  { c with state := .ready, zeroRef := filtered, initialZero := some filtered, weights := [], gross := some 0 }

/-- R76, R77: the produce state that a weight settles, with what it does to the zero. -/
def Channel.settleProduce (c : Channel) (filtered gross : Int) : Channel :=
  match c.state, c.initialZero with
  | .warmup, some _ => { c with state := settledState gross }
  | .warmup, none =>
    if steadyWeights c.weights then (if inZeroWindow gross then c.takeZero filtered else { c with state := .noZero }) else c
  | .noZero, _ => if steadyWeights c.weights && inZeroWindow gross then c.takeZero filtered else c
  | _, _ => { c with state := settledState gross }

/-- R79, R80: an offset from the initial zero in divisions, within 60 of it. -/
def Channel.offsetAllowed (c : Channel) (filtered : Int) : Bool :=
  match c.initialZero with
  | some z => decide (-60 ≤ c.weightFrom filtered z) && decide (c.weightFrom filtered z ≤ 60)
  | none => false

/-- R79: zero tracking. -/
def Channel.track (c : Channel) (filtered gross : Int) : Channel :=
  if c.stable && c.tare.isNone && decide (-1 ≤ gross) && decide (gross ≤ 1) && c.offsetAllowed filtered then
    { c with zeroRef := filtered }
  else c

/-- R81: gross less tare. -/
def Channel.netOf (c : Channel) (gross : Int) : Int := gross - (c.tare.getD 0 : Nat)

/-- R74, R75: a weight joins the history. -/
def Channel.pushWeight (c : Channel) (gross : Int) : Channel := { c with weights := newest 5 (c.weights ++ [gross]), gross := some gross }

/-- R75: stability judged once the state is settled. -/
def Channel.judgeStable (c : Channel) : Channel := { c with stable := c.isStable }

/-- R74 to R79: the produce channel after a weight formed from a filtered value: the weight, the state, stability, zero tracking, the
net. -/
def Channel.produceWeight (c : Channel) (filtered : Int) : Channel :=
  let gross := c.weightFrom filtered c.zeroRef
  let c := ((c.pushWeight gross).settleProduce filtered gross).judgeStable
  let c := c.track filtered gross
  { c with net := some (c.netOf (c.gross.getD 0)) }

/-- R76, R78: the bagging channel after a weight: leaving WARMUP sets the baseline-wanted mark. -/
def Channel.baggingWeight (c : Channel) (filtered : Int) : Channel :=
  let gross := c.weightFrom filtered c.zeroRef
  let wanted := c.baselineWanted || c.state == .warmup
  let c := ({ c.pushWeight gross with state := settledState gross, baselineWanted := wanted } : Channel).judgeStable
  { c with net := some gross }

/-- R73: a net sample, in half counts, joins the history. -/
def Channel.pushSample (c : Channel) (twice : Int) : Channel := { c with samples := newest 8 (c.samples ++ [twice]), positive := none }

/-- R84, R83: what follows a produce weight: the WEIGHT notice and the capture unit. -/
def State.produceFormed (s : State) : State :=
  let s := if s.scale.produceDiffers then s.weightNotice else s
  let c := s.scale.produce
  s.captureWeight c.state c.stable (c.gross.getD 0) (c.net.getD 0)

/-- R78: what follows a bagging weight: a WEIGHT notice at a change of state, and a baseline or a settle event. -/
def State.baggingFormed (s : State) (before : Channel) : State :=
  let c := s.scale.bagging
  let s := if c.state = before.state then s else s.weightNotice
  if c.stable then
    if c.baselineWanted then
      (s.setScale { s.scale with bagging := { s.scale.bagging with baselineWanted := false } }).baselineEvent (c.gross.getD 0)
    else if before.stable then s
    else s.settleEvent (c.gross.getD 0)
  else s

/-- R73, R74: the produce channel has a net sample; once eight stand in the history it forms a weight. -/
def State.produceSample (s : State) (twice : Int) : State :=
  let c := s.scale.produce.pushSample twice
  match c.filtered with
  | none => s.setScale { s.scale with produce := c }
  | some f => (s.setScale { s.scale with produce := c.produceWeight f }).produceFormed

/-- R73, R74: the bagging channel has a net sample. -/
def State.baggingSample (s : State) (twice : Int) : State :=
  let before := s.scale.bagging
  let c := before.pushSample twice
  match c.filtered with
  | none => s.setScale { s.scale with bagging := c }
  | some f => (s.setScale { s.scale with bagging := c.baggingWeight f }).baggingFormed before

/-- Whether a point of the period lies in the positive half. -/
def DrivePhase.positive : DrivePhase → Bool
  | .positiveDead => true
  | .positiveDrive => true
  | .negativeDead => false
  | .negativeDrive => false

/-- R68, R73: the produce channel's phase reading of a half; the second of a period forms its net sample. -/
def State.produceReading (s : State) (r : Int) : State :=
  if s.scale.gen.phase.positive then s.setScale { s.scale with produce := { s.scale.produce with positive := some r } }
  else
    match s.scale.produce.positive with
    | some p => s.produceSample (p - r)
    | none => s

/-- R68, R73: the bagging channel's phase reading of a half. -/
def State.baggingReading (s : State) (r : Int) : State :=
  if s.scale.gen.phase.positive then s.setScale { s.scale with bagging := { s.scale.bagging with positive := some r } }
  else
    match s.scale.bagging.positive with
    | some p => s.baggingSample (p - r)
    | none => s

/-- R72: a value held to a range: beyond it, the nearer limit. -/
def nearest (lo hi z : Int) : Int := if z < lo then lo else if hi < z then hi else z

/-- R72: a reading of the bridge output, within the counts of the converter. -/
def readingOf (z : Int) : Int := nearest (-8388608) 8388607 z

/-- R72: a head temperature, within the degrees of its range (log entry 53). -/
def temperatureOf (z : Int) : Int := nearest (-20) 120 z

/-- R71, R72: a conversion ends: the next pending slot is granted, and the result goes to the requester; a scale result after a forced
cutoff is discarded. -/
def State.conversionEnds (s : State) (result : Int) : State :=
  let conv := s.scale.conv
  match conv.converting with
  | none => s
  | some who =>
    let s := s.setScale { s.scale with conv := ({ conv with converting := none, discard := false } : Converter).grant }
    match who with
    | .temperature => s.temperatureResult (temperatureOf result)
    | .produce => if conv.discard || !s.scale.gen.running then s else s.produceReading (readingOf result)
    | .bagging => if conv.discard || !s.scale.gen.running then s else s.baggingReading (readingOf result)

/-! ## The generator (R68 to R70) -/

/-- R70: a channel at the boundary at which a restart takes effect. -/
def Channel.restarted (c : Channel) : Channel := { c.emptied with state := .warmup }

/-- R69: a channel at a forced cutoff. -/
def Channel.cutOff (c : Channel) : Channel := { c.emptied with state := .fault }

/-- R69, R78: the bagging channel at a forced cutoff: leaving WARMUP sets the baseline-wanted mark. -/
def Channel.baggingCutOff (c : Channel) : Channel := { c.cutOff with baselineWanted := c.baselineWanted || c.state == .warmup }

/-- R84: a WEIGHT notice when either channel's state has changed. -/
def State.weightNoticeIfChanged (s : State) (before : Scale) : State :=
  if s.scale.produce.state = before.produce.state ∧ s.scale.bagging.state = before.bagging.state then s else s.weightNotice

/-- R70: the restart takes effect. -/
def State.restartTakesEffect (s : State) : State :=
  let before := s.scale
  let s := s.setScale { before with gen := { before.gen with running := true, restart := false, phase := .positiveDead, timer := some 0 },
                                    produce := before.produce.restarted, bagging := before.bagging.restarted }
  (s.withdraw .scaleFault).weightNoticeIfChanged before

/-- A period begins: readings that formed no net sample are gone (R73). -/
def Scale.newPeriod (c : Scale) : Scale :=
  { c with gen := { c.gen with phase := .positiveDead, timer := some 0 }, produce := { c.produce with positive := none },
           bagging := { c.bagging with positive := none } }

/-- R68, R70: a period boundary. Before CONFIGURE there is none. -/
def State.periodBoundary (s : State) : State :=
  match s.scale.gen.timer with
  | none => s
  | some _ =>
    if s.scale.gen.restart then s.restartTakesEffect
    else if s.scale.gen.running then s.setScale s.scale.newPeriod
    else s.setScale { s.scale with gen := { s.scale.gen with timer := some 0 } }

/-- R69, item 3: the scale slots are emptied, and a scale conversion in progress is to be discarded. -/
def Converter.cutScale (c : Converter) : Converter :=
  { c with produce := false, bagging := false,
           discard := match c.converting with | some .produce => true | some .bagging => true | _ => c.discard }

/-- R69: a forced cutoff. -/
def State.forcedCutoff (s : State) : State :=
  let before := s.scale
  let s := s.setScale { before with gen := { before.gen with running := false, restart := false, phase := .positiveDead },
                                    conv := before.conv.cutScale, produce := before.produce.cutOff,
                                    bagging := before.bagging.baggingCutOff }
  ((s.raise .scaleFault).weightNoticeIfChanged before).endCapture .fault

/-- R69: a change of the BRIDGE_FAULT input: to FAULT with the generator RUNNING it is a forced cutoff, and otherwise only the level
changes. -/
def State.bridgeChanges (s : State) (l : BridgeLevel) : State :=
  let running := s.scale.gen.running
  let s := s.setScale { s.scale with gen := { s.scale.gen with bridge := l } }
  match l with
  | .fault => if running then s.forcedCutoff else s
  | .normal => s

/-- R68, R74, R76: a channel at CONFIGURE. -/
def Channel.configured (c : Channel) (zeroCount : Int) (span : Nat) : Channel :=
  { c.emptied with state := .warmup, zeroCount := zeroCount, zeroRef := 16 * zeroCount, span := span }

/-- R68, R69: the scale front end at CONFIGURE; an input at FAULT cuts it off at once. -/
def State.startScale (s : State) (v : ConfigValues) : State :=
  let before := s.scale
  let s := (s.setScale { before with
    gen := { before.gen with running := true, restart := false, phase := .positiveDead, timer := some 0, period := v.period },
    produce := before.produce.configured v.produceZero v.produceSpan,
    bagging := before.bagging.configured v.baggingZero v.baggingSpan }).weightNotice
  match s.scale.gen.bridge with
  | .fault => s.forcedCutoff
  | .normal => s

/-- R84: a WEIGHT notice when the displayed net has changed. -/
def State.weightNoticeIfNet (s : State) (before : Option Int) : State :=
  if s.scale.produce.displayedNet = before then s else s.weightNotice

/-- R82: the tare becomes none, and the net becomes the gross. -/
def State.clearTareNow (s : State) : State :=
  let before := s.scale.produce.displayedNet
  (s.setScale { s.scale with produce := { s.scale.produce with tare := none, net := s.scale.produce.gross } }).weightNoticeIfNet before

end Sys2Proof.Machine
end

