-- ==== Sys2Proof/Machine/Print.lean ====
section
/-! DEFINITION. The events of the print engine: passes, steps, media, cutter, timers, and the end of a job (R142, R147 to R154). -/

namespace Sys2Proof.Machine

/-! ## The end of a job (R153, R154, R165) -/

/-- R153, R165: the outcome goes to the sale controller, or to the composer with a REPRINT notice; the composer's receipt is over. -/
def State.reportOutcome (s : State) (o : JobOutcome) (p : PrintStatus) : State :=
  match s.engine.job with
  | some .copy =>
    let s := match s.composer.copy with
      | some c => s.notice (.reprint c.seq c.receipt c.check o)
      | none => s
    s.setComposer s.composer.ended
  | some _ => (s.setComposer s.composer.ended).printOutcome p
  | none => s

/-- R153, item 4: the job record takes its IDLE values, and the engine enters IDLE. -/
def State.engineIdle (s : State) (o : JobOutcome) : State := s.putEngine s.engine.idleJob (some o)

/-- R20, R153: the sale controller hands its waiting request over in the step in which the engine enters IDLE. -/
def State.handWaitingJob (s : State) : State :=
  match s.sale.waitingJob with
  | some k => (s.setSale { s.sale with waitingJob := none }).takeJob k
  | none => s

/-- R153: a job ends DONE or DONE_UNCUT. -/
def State.endJob (s : State) (o : JobOutcome) (p : PrintStatus) : State :=
  (((s.releaseHolding .printer).reportOutcome o p).engineIdle o).handWaitingJob

/-- R154: LANE RESET abandons a job in any state. -/
def State.abandonJob (s : State) : State :=
  if s.engine.state = .idle then s
  else
    let s := s.setEngine { s.engine with line := none, current := none, staged := none, step := none, feedCount := 0, cutTimer := none }
    let s := s.releaseHolding .printer
    (s.setComposer s.composer.ended).engineIdle .abandoned

/-! ## Passes and steps (R140, R142) -/

/-- R140, R142: a pass ends: the next begins, or the row's first step, which waits for the step of a discarded row (R146). -/
def State.passEnds (s : State) : State :=
  match s.engine.current with
  | none => s
  | some r =>
    match r.pass with
    | none => s
    | some _ =>
      match r.plan with
      | p :: ps => s.setEngine { s.engine with current := some { r with pass := some p, plan := ps } }
      | [] => s.setEngine { s.engine with current := some { r with pass := none },
                                          step := match s.engine.step with | some .leftover => some .leftover | _ => some .one }

/-- R142: a motor step completes, and the phase records the position reached, the next of the fixed cycle (log entry 48). -/
def State.stepEnds (s : State) : State :=
  match s.engine.step with
  | none => s
  | some x =>
    let s := s.setEngine { s.engine with motorPhase := s.engine.motorPhase + 1, step := none }
    match s.engine.current, x with
    | some r, .one => if r.pass.isNone then s.setEngine { s.engine with step := some .two } else s
    | some r, .two => if r.pass.isNone then s.rowBoundary r.feed else s
    | some r, .leftover => if r.pass.isNone then s.setEngine { s.engine with step := some .one } else s
    | none, _ => s

/-! ## Media, near end, cutter (R147 to R152) -/

/-- R148: what a MEDIA departure does to the job. -/
def State.mediaPauses (s : State) : State :=
  match s.engine.state, s.engine.current with
  | .printing, some _ => s.setEngine { s.engine with mediaPause := true }
  | .printing, none => s.pauseMedia
  | .feeding, some _ => s.setEngine { s.engine with mediaPause := true }
  | .feeding, none => s.pauseMedia
  | .claiming, _ => s.setEngine { s.engine with mediaPause := true }
  | .pausedHot, _ => s.setEngine { s.engine with mediaPause := true }
  | .waitCommit, _ => s.pauseMedia
  | _, _ => s

/-- R148: PAPER_OUT is raised, and the engine remembers that it has raised it. -/
def State.raisePaperOut (s : State) : State := (s.setEngine { s.engine with paperOut := true }).raise .paperOut

/-- R148, R149: a change of the MEDIA watch's mark while the part is RUNNING. -/
def State.mediaWatch (s : State) (matching : Bool) : State :=
  if matching then s.setEngine { s.engine with mediaSettle := some 0 }
  else (s.setEngine { s.engine with mediaSettle := none }).raisePaperOut.mediaPauses

/-- R149: the media settle timer reaches 1 s. -/
def State.mediaSettles (s : State) : State :=
  match s.engine.mediaSettle with
  | none => s
  | some _ =>
    let s := (s.setEngine { s.engine with mediaSettle := none, paperOut := false, mediaPause := false }).withdraw .paperOut
    if s.engine.state = .pausedMedia then s.rowStart else s

/-- R150: a change of the NEAR_END watch's mark while the part is RUNNING. -/
def State.nearEndWatch (s : State) (matching : Bool) : State := s.notice (.nearEnd (if matching then .first else .second))

/-- R152: a CUTTER watch return while the part is RUNNING; the job ends before PRINTER_JAM is withdrawn (log entry 68). -/
def State.cutterReturns (s : State) : State :=
  (if s.engine.state = .cutting then s.endJob .done .done else s).withdraw .printerJam

/-- R152: a change of the CUTTER watch's mark while the part is RUNNING; a departure leaves the cut running. -/
def State.cutterWatch (s : State) (matching : Bool) : State := if matching then s.cutterReturns else s

/-- R152: the cut timer reaches 600 ms. -/
def State.cutExpires (s : State) : State :=
  match s.engine.state, s.engine.cutTimer with
  | .cutting, some _ => (s.raise .printerJam).endJob .doneUncut .doneUncut
  | _, _ => s

/-- R138, R148, R150: the print engine at CONFIGURE. -/
def State.startEngine (s : State) (headMax : Nat) : State :=
  let s := s.setEngine { s.engine with headMax := headMax }
  let s := if s.sense.watchMedia.matching then s else s.raisePaperOut
  if s.sense.watchNearEnd.matching then s else s.notice (.nearEnd .second)

end Sys2Proof.Machine
end

