-- ==== Sys2Proof/Machine/Authority.lean ====
section
/-! DEFINITION. The authority timer (R117 to R120) and the clear attempt on the own call (R66, R102). -/

namespace Sys2Proof.Machine

/-- R117: the authority record replaced; a change between present and absent places one AUTHORITY notice. -/
def State.putAuthority (s : State) (a : Authority) : State :=
  if a.present = s.authority.present then s.setAuthority a
  else (s.setAuthority a).notice (.authority a.present a.window.isSome a.key)

/-- R66: the CALL record of a clear attempt: the own entry's ticket, the wanted set, the source and its digits. -/
def State.callAppend (s : State) (source : AuthSource) (digits : Text) : Append :=
  .call (s.cluster.ownEntry.bind (fun e => e.ticket)) s.cluster.wanted source digits

/-- R66, items 2 to 4: the reasons are withdrawn at their owners, the wanted set is emptied, and a CALL CLEAR of cause ATTENDANT is
asked for, or the own entry goes at once. Of the owners only the print engine keeps a mark of its own for its reason. -/
def State.emptyWanted (s : State) : State :=
  (s.setEngine { s.engine with paperOut := false }).updateCluster (s.cluster.wantedChanged 0 (.callClear .attendant))

/-- R66: the clear attempt succeeds; `clear` is the clear weight when the set holds a bagging reason (R102). The journal judges its level
after the set has been emptied, so an entry to FULL starts a new call. -/
def State.clearSucceeds (s : State) (source : AuthSource) (digits : Text) (clear : Option Int) : State :=
  let record := s.callAppend source digits
  let s := s.emptyWanted
  let s := match clear with
    | some w => s.baggingCleared w
    | none => s
  s.handOver record

/-- R66, item 2: whether a CALL place of the append queue is free. -/
def Journal.callPlaceFree (j : Journal) : Bool := decide (j.callsWaiting < 2)

/-- R66, R120: a clear attempt on the own call, with its result. -/
def State.clearAttempt (s : State) (source : AuthSource) (digits : Text) : State × ClearResult :=
  if s.cluster.wanted = 0 then (s, .noCall)
  else if s.cluster.wanted &&& baggingReasons ≠ 0 then
    match s.clearWeight with
    | none => (s.baggingNotice (.clearRefused s.scale.bagging.state), .notAccepted)
    | some w => if s.journal.callPlaceFree then (s.clearSucceeds source digits (some w), .cleared) else (s, .journalBusy)
  else if s.journal.callPlaceFree then (s.clearSucceeds source digits none, .cleared)
  else (s, .journalBusy)

/-- R118, items 2 to 4: the clear attempt, the ATTENDANT notice and the CHIRP of an attendant event. -/
def State.attendantClear (s : State) (source : AuthSource) (digits : Text) : State :=
  let r := s.clearAttempt source digits
  (r.1.notice (.attendant source digits r.2)).requestTone .chirp .authorityTimer

/-- R118: an attendant event with source CARD. -/
def State.attendantCard (s : State) (digits : Text) : State :=
  (s.putAuthority { s.authority with window := some 0 }).attendantClear .card digits

/-- R117, R118: a KEY watch departure while the part is RUNNING. -/
def State.keyDeparts (s : State) : State :=
  match s.authority.key with
  | .home => (s.putAuthority { s.authority with key := .turned }).attendantClear .key []
  | _ => s

/-- R117: a change of the KEY watch's mark while the part is RUNNING. -/
def State.keyWatch (s : State) (matching : Bool) : State :=
  if matching then s.putAuthority { s.authority with key := .home } else s.keyDeparts

/-- R117: the window timer reaches 30 s. -/
def State.windowExpires (s : State) : State := s.putAuthority { s.authority with window := none }

/-- R117: LANE RESET stops the window and spends a turned key. -/
def State.authorityLaneReset (s : State) : State :=
  s.putAuthority { window := none, key := match s.authority.key with | .turned => .spent | k => k }

/-- R117: CONFIGURE settles the key state (log entry 38). -/
def State.settleKey (s : State) : State :=
  s.putAuthority { s.authority with key := if s.sense.watchKey.matching then .home else .spent }

end Sys2Proof.Machine
end

