-- ==== Sys2Proof/Machine/Card.lean ====
section
/-! DEFINITION. The card decoder (Chapter 6): the track channels, the decoding of a track, the card record and its class, and the card
buffer. -/

namespace Sys2Proof.Machine

/-! ## Track channels (R104 to R106) -/

/-- R104: a channel opened for a swipe. -/
def TrackChannel.fresh : TrackChannel := { TrackChannel.closed with opened := true }

/-- R106: the shortest cell of a track, in microseconds. -/
def shortestCell : Track → Nat
  | .a => 80
  | .b => 210

/-- R106: the longest cell of a track, in microseconds. -/
def longestCell : Track → Nat
  | .a => 1300
  | .b => 3400

/-- R106: a bit collected, at most 1024. -/
def TrackChannel.collect (c : TrackChannel) (b : Bool) : TrackChannel :=
  if c.bits.length < 1024 then { c with bits := c.bits ++ [b] } else { c with full := true }

/-- R105: a cell added; the estimate is the mean of the three most recent. -/
def TrackChannel.addCell (c : TrackChannel) (t : Nat) : TrackChannel := { c with cells := (t :: c.cells).take 3 }

/-- R105: an interval handled once there is an estimate, which is a third of `sum`. -/
def TrackChannel.timed (c : TrackChannel) (t sum : Nat) : TrackChannel :=
  if sum ≤ 4 * t then
    match c.half with
    | none => ({ (c.collect false).addCell t with since := some 0 } : TrackChannel)
    | some _ => { ((c.collect true).collect false).addCell t with half := none, since := some 0 }
  else if sum ≤ 12 * t then
    match c.half with
    | none => { c with half := some t, since := some 0 }
    | some h => { (c.collect true).addCell (h + t) with half := none, since := some 0 }
  else { c with since := some t }

/-- R105, R106: a transition at an open channel; `interval` is the time since the track's previous transition (log entry 33). -/
def TrackChannel.transition (track : Track) (c : TrackChannel) (interval : Nat) : TrackChannel :=
  match c.since with
  | none => { c with since := some 0 }
  | some d =>
    let t := d + interval
    if longestCell track < t then { c with opened := false }
    else
      match c.cells with
      | [x, y, z] => c.timed t (x + y + z)
      | _ =>
        if t < shortestCell track then { c with since := some t }
        else { (c.collect false).addCell t with since := some 0 }

/-- A channel of the decoder. -/
def Card.channel (c : Card) : Track → TrackChannel
  | .a => c.a
  | .b => c.b

/-- The decoder with one channel replaced. -/
def Card.setChannel (c : Card) (k : Track) (x : TrackChannel) : Card :=
  match k with
  | .a => { c with a := x }
  | .b => { c with b := x }

/-- R104: both channels opened with empty buffers, and the phase COLLECTING. -/
def Card.openSwipe (c : Card) : Card := { c with phase := .collecting, a := .fresh, b := .fresh }

/-- R104, R116: a transition, by swipe phase, while the part is RUNNING. -/
def Card.transition (c : Card) (k : Track) (interval : Nat) : Card :=
  match c.phase with
  | .quiet =>
    ({ c.openSwipe with swipeTimer := some 0, late := false } : Card).setChannel k { TrackChannel.fresh with since := some 0 }
  | .collecting =>
    ({ c with swipeTimer := some 0 } : Card).setChannel k
      (if (c.channel k).opened then (c.channel k).transition k interval else c.channel k)
  | .decoding => { c with late := true, swipeTimer := some 0 }
  | .skipping => { c with swipeTimer := some 0 }

/-- R104, R116: the swipe-end timer reaches 50 ms. -/
def Card.swipeEnds (c : Card) : Card :=
  match c.phase, c.swipeTimer with
  | .collecting, some _ => { c with phase := .decoding, swipeTimer := none, late := false }
  | .skipping, some _ => { c with phase := .quiet, swipeTimer := none }
  | _, _ => c

/-! ## Decoding a track (R108 to R110) -/

/-- The data bits of a character of a track (R108). -/
def charWidth : Track → Nat
  | .a => 6
  | .b => 4

/-- The start sentinel (R108). -/
def startSentinel : Track → Nat
  | .a => 0x05
  | .b => 0x0B

/-- The end sentinel (R108). -/
def endSentinel : Track → Nat
  | .a => 0x1F
  | .b => 0x0F

/-- The field separator of track B (R108, R111). -/
def fieldSeparator : Byte := 0x0D

/-- The most characters between the sentinels (R108). -/
def mostChars : Track → Nat
  | .a => 79
  | .b => 40

/-- The number that bits hold, least significant first. -/
def natOfLow : List Bool → Nat
  | [] => 0
  | b :: bs => b.toNat + 2 * natOfLow bs

/-- The next character of a track: its data value, whether its parity is odd, and the bits after it; none when the bits run out. -/
def readChar (k : Track) (bits : List Bool) : Option (Nat × Bool × List Bool) :=
  if bits.length < charWidth k + 1 then none
  else
    let ch := bits.take (charWidth k + 1)
    some (natOfLow (ch.take (charWidth k)), (ch.filter id).length % 2 == 1, bits.drop (charWidth k + 1))

/-- R108: the bits after the first start sentinel with odd parity. -/
def findStart (k : Track) : List Bool → Option (List Bool)
  | [] => none
  | b :: bits =>
    match readChar k (b :: bits) with
    | none => none
    | some (v, odd, rest) => if v = startSentinel k ∧ odd = true then some rest else findStart k bits

/-- What reading from the start sentinel ends with: the bits ran out, too many characters, or the end sentinel with the data characters,
the index of the first even parity, and the bits after it (R109). -/
inductive TrackRead where
  | noEnd
  | tooLong
  | ended (chars : List Nat) (bad : Option Nat) (rest : List Bool)
  deriving DecidableEq, Repr

/-- R109: characters read up to the end sentinel. `fuel` counts the characters still allowed, the end sentinel included; `index` is that of
the next character. -/
def readTrack (k : Track) : Nat → Nat → List Nat → Option Nat → List Bool → TrackRead
  | 0, _, _, _, _ => .tooLong
  | fuel + 1, index, chars, bad, bits =>
    match readChar k bits with
    | none => .noEnd
    | some (v, odd, rest) =>
      let bad := match bad with | some i => some i | none => if odd then none else some index
      if v = endSentinel k then .ended chars.reverse bad rest else readTrack k fuel (index + 1) (v :: chars) bad rest

/-- R110: whether the check character passes. -/
def checkPasses (k : Track) (chars : List Nat) (rest : List Bool) : Bool :=
  match readChar k rest with
  | none => false
  | some (v, odd, _) => odd && v == chars.foldl Nat.xor (Nat.xor (startSentinel k) (endSentinel k))

/-- A decoded track: the direction in which its start sentinel was found, its status, and the characters of a GOOD track. -/
structure DecodedTrack where
  direction : Option Direction
  status : TrackStatus
  chars : List Byte
  deriving DecidableEq, Repr

/-- R109: the status of a track from the bits after its start sentinel. -/
def statusFrom (k : Track) (d : Direction) (bits : List Bool) : DecodedTrack :=
  match readTrack k (mostChars k + 1) 1 [] none bits with
  | .noEnd => { direction := some d, status := .noEnd, chars := [] }
  | .tooLong => { direction := some d, status := .tooLong, chars := [] }
  | .ended _ (some i) _ => { direction := some d, status := .parity i, chars := [] }
  | .ended chars none rest =>
    if checkPasses k chars rest then { direction := some d, status := .good, chars := chars.map (BitVec.ofNat 8) }
    else { direction := some d, status := .check, chars := [] }

/-- R108: a track decoded from its bit buffer. -/
def decodeTrack (k : Track) (bits : List Bool) : DecodedTrack :=
  if bits.length < 8 then { direction := none, status := .absent, chars := [] }
  else
    match findStart k bits with
    | some rest => statusFrom k .forward rest
    | none =>
      match findStart k bits.reverse with
      | some rest => statusFrom k .reverse rest
      | none => { direction := none, status := .noStart, chars := [] }

/-! ## The card record (R111, R112) -/

/-- R111: the account number of a GOOD track B. -/
def accountOf (t : DecodedTrack) : Option (List Byte) :=
  let digits := t.chars.takeWhile (fun c => c != fieldSeparator)
  if t.status = .good ∧ 12 ≤ digits.length ∧ digits.length ≤ 19 ∧ digits.all (fun d => decide (d.toNat ≤ 9)) = true then some digits
  else none

/-- R112: a record's class. -/
def classOf (prefixes : List Text) (a b : DecodedTrack) (account : Option (List Byte)) : CardClass :=
  let attendant := match account with
    | some x => prefixes.any (fun p => (trackCodes .b x).take p.length == p)
    | none => false
  if attendant then .attendant
  else if a.status = .good ∨ b.status = .good then .customer
  else .unreadable

/-- R111: the card record of two bit buffers. -/
def cardRecord (id : Nat) (prefixes : List Text) (bitsA bitsB : List Bool) : CardRecord :=
  let a := decodeTrack .a bitsA
  let b := decodeTrack .b bitsB
  let account := accountOf b
  { id := id, direction := (b.direction.orElse (fun _ => a.direction)).getD .forward, trackA := a.status, charsA := a.chars,
    trackB := b.status, charsB := b.chars, account := account, cls := classOf prefixes a b account, overrun := false }

/-- R104, R111: decoding ends: the channels are wiped, and the phase is QUIET, or COLLECTING when a swipe has begun meanwhile. -/
def Card.afterDecoding (c : Card) : Card :=
  if c.late then { c.openSwipe with late := false, nextId := c.nextId + 1 }
  else { c with phase := .quiet, a := .closed, b := .closed, swipeTimer := none, nextId := c.nextId + 1 }

/-- R118: the last four digits of an account number, as codes. -/
def lastFour (account : List Byte) : Text := trackCodes .b (account.drop (account.length - 4))

/-- R113 to R115, R118: a decoded record handled by its class and the buffer's state. -/
def State.handleRecord (s : State) (r : CardRecord) : State :=
  match r.cls, s.card.held with
  | .attendant, _ => s.attendantCard (lastFour (r.account.getD []))
  | .customer, none =>
    ((s.setCard { s.card with held := some r }).notice (.cardRead r.id r.direction r.trackA r.trackB)).requestTone .chirp .cardDecoder
  | .unreadable, none => (s.notice (.cardError r.direction r.trackA r.trackB)).requestTone .double .cardDecoder
  | cls, some h =>
    ((s.setCard { s.card with held := some { h with overrun := true } }).notice
      (.cardOverrun cls r.trackA r.trackB)).requestTone .double .cardDecoder

/-- R111: track decoding ends. -/
def State.decodingEnds (s : State) : State :=
  match s.card.phase with
  | .decoding =>
    (s.setCard s.card.afterDecoding).handleRecord (cardRecord s.card.nextId s.card.prefixes s.card.a.bits s.card.b.bits)
  | _ => s

/-! ## Leaving HELD (R116) -/

/-- R116: the held record is wiped; a swipe being collected or decoded goes on. -/
def State.wipeHeld (s : State) : State := s.setCard { s.card with held := none }

/-- R116: LANE RESET wipes the buffer and abandons any swipe. -/
def Card.laneReset (c : Card) : Card :=
  let c := { c with held := none, a := .closed, b := .closed }
  match c.phase with
  | .quiet => c
  | .collecting => { c with phase := .skipping }
  | .decoding => if c.late then { c with phase := .skipping, late := false } else { c with phase := .quiet, swipeTimer := none }
  | .skipping => c

/-- R6: the masked account number: every digit but the last four an asterisk. -/
def maskAccount (account : List Byte) : Text := List.replicate (account.length - 4) 42 ++ lastFour account

end Sys2Proof.Machine
end

