-- ==== Sys2Proof/Machine/Sense.lean ====
section
/-! DEFINITION. The sense unit (R121 to R123): raw levels, debouncing, watches, and the delivery of their events. -/

namespace Sys2Proof.Machine

/-- An input of the sense unit. -/
def Sense.pin (s : Sense) : SenseInput → SensePin
  | .drawer => s.drawer
  | .paper => s.paper
  | .cover => s.cover
  | .nearEnd => s.nearEnd
  | .cutterHome => s.cutterHome
  | .key => s.key
  | .spare1 => s.spare1
  | .spare2 => s.spare2

/-- The sense unit with one input replaced. -/
def Sense.setPin (s : Sense) (i : SenseInput) (p : SensePin) : Sense :=
  match i with
  | .drawer => { s with drawer := p }
  | .paper => { s with paper := p }
  | .cover => { s with cover := p }
  | .nearEnd => { s with nearEnd := p }
  | .cutterHome => { s with cutterHome := p }
  | .key => { s with key := p }
  | .spare1 => { s with spare1 := p }
  | .spare2 => { s with spare2 := p }

/-- R121: the raw level at a pin changes: the 10 ms count starts again, or is cancelled when the level is the debounced one again. -/
def SensePin.rawChanges (p : SensePin) (l : Level) : SensePin :=
  if l = p.raw then p else { p with raw := l, count := if l = p.debounced then none else some 0 }

/-- R121: the raw level has held for 10 ms. -/
def SensePin.settles (p : SensePin) : SensePin := { p with debounced := p.raw, count := none }

/-- R122: a watch judged against levels. -/
def Watch.judge (w : Watch) (levels : List Level) : Watch := { w with matching := levels == w.expected }

/-- R122: the watches judged afresh from the debounced levels. -/
def Sense.judge (s : Sense) : Sense :=
  { s with watchDrawer := s.watchDrawer.judge [s.drawer.debounced],
           watchMedia := s.watchMedia.judge [s.paper.debounced, s.cover.debounced],
           watchNearEnd := s.watchNearEnd.judge [s.nearEnd.debounced],
           watchKey := s.watchKey.judge [s.key.debounced],
           watchCutter := s.watchCutter.judge [s.cutterHome.debounced] }

/-- R122: an event goes to a watch's owner when its matching mark has changed. -/
def State.deliver (s : State) (before after : Watch) (owner : State → Bool → State) : State :=
  if before.matching = after.matching then s else owner s after.matching

/-- R123: a change of a spare input while the part is RUNNING places one INPUT notice. -/
def State.spareNotice (s : State) (i : SenseInput) : State := s.notice (.input i (s.sense.pin i).debounced)

/-- R122, R123: what a debounced change of an input brings, `before` being the sense unit as it was. Of the owners the drawer controller
alone acts before the part is RUNNING (R124). -/
def State.senseEvents (s : State) (i : SenseInput) (before : Sense) : State :=
  let running := s.link.part == .running
  match i with
  | .drawer => s.deliver before.watchDrawer s.sense.watchDrawer State.drawerWatch
  | .paper => if running then s.deliver before.watchMedia s.sense.watchMedia State.mediaWatch else s
  | .cover => if running then s.deliver before.watchMedia s.sense.watchMedia State.mediaWatch else s
  | .nearEnd => if running then s.deliver before.watchNearEnd s.sense.watchNearEnd State.nearEndWatch else s
  | .cutterHome => if running then s.deliver before.watchCutter s.sense.watchCutter State.cutterWatch else s
  | .key => if running then s.deliver before.watchKey s.sense.watchKey State.keyWatch else s
  | .spare1 => if running then s.spareNotice .spare1 else s
  | .spare2 => if running then s.spareNotice .spare2 else s

/-- R121: an input's raw level has held a new level for 10 ms: its debounced level changes, and its watch is judged. -/
def State.debounced (s : State) (i : SenseInput) : State :=
  let p := s.sense.pin i
  match p.count with
  | none => s
  | some _ =>
    if p.raw = p.debounced then s
    else (s.setSense (s.sense.setPin i p.settles).judge).senseEvents i s.sense

end Sys2Proof.Machine
end

