-- ==== Sys2Proof/Machine/Frames.lean ====
section
/-! DEFINITION. The frames of the cluster bus (Chapters 2 and 3): the frame offered on a free bus, the verdicts of the receivers, the
response and the outcome, what a taken frame does, failures and line evaluation, and the station's timers. -/

namespace Sys2Proof.Machine

/-! ## Offering a frame (R39, R46, R48) -/

/-- R46, R48: the fields of a ROLL, filled at its start slot. -/
def Cluster.rollFields (c : Cluster) : RollFields :=
  match c.state with
  | .joining =>
    { budget := c.budget.getD 0, printer := 0, drawer := 0, join := true, callOpen := c.ownEntry.isSome,
      ticket := match c.ownEntry with
        | some _ => none
        | none => if c.learned then some c.newest else none,
      reasons := c.ownReasons }
  | _ =>
    { budget := c.budget.getD 0, printer := c.printer.holding, drawer := c.drawer.holding, join := false,
      callOpen := c.ownEntry.isSome,
      ticket := match c.ownEntry with
        | some e => e.ticket
        | none => some c.newest,
      reasons := c.ownReasons }

/-- A frame of the list as filled at its start slot. -/
def Cluster.fill (c : Cluster) : OutBody → FrameBody
  | .expire t => .expire t
  | .callClear x => .callClear x
  | .callRaise r => .callRaise r
  | .release k u => .release k u
  | .claim k lo hi => .claim k lo hi
  | .topup k lo hi => .topup k lo hi
  | .roll => .roll c.rollFields

/-- R39: the frame that the station offers. -/
def Cluster.offered (c : Cluster) : Option OutFrame :=
  match c.state with
  | .member => c.out.head?
  | .joining => c.out.find? (fun f => f.body.isRoll)
  | _ => none

/-- R27, R39: the bus becomes free, or stays free for one more slot, and the offered frame is on the bus from its start slot. State holds no mark that
the bus is free: BUS_FREE comes again while it stays so (log entry 35). -/
def Cluster.busFree (c : Cluster) : Cluster :=
  match c.onBus, c.offered with
  | none, some f => { c with onBus := some { age := f.age, frame := { sender := c.number, body := c.fill f.body } } }
  | _, _ => c

/-! ## Receivers (R34, R35) -/

/-- The verdict, good when true, of each receiver on a frame. -/
structure Verdicts where
  d : Bool
  sa : Bool
  sb : Bool
  deriving DecidableEq, Repr

/-- The verdict of the active receiver (R34). -/
def Verdicts.active (v : Verdicts) : LineMode → Bool
  | .full => v.d
  | .aOnly => v.sa
  | .bOnly => v.sb

/-- R34: the readings of the three receivers; of a frame that the station itself sends none is missed. -/
def readingsOf (h : Heard) (ours : Bool) : Option (Reading × Reading × Reading) :=
  match h with
  | .read d sa sb => some (d, sa, sb)
  | .missed => if ours then some (.asSent, .asSent, .asSent) else none

/-- R34: the verdict of each receiver on another station's frame. -/
def peerVerdicts (f : Frame) (r : Reading × Reading × Reading) : Verdicts :=
  { d := (r.1.copy f).isSome, sa := (r.2.1.copy f).isSome, sb := (r.2.2.copy f).isSome }

/-- R34: the verdict of each receiver on the own frame, of which the slots up to the given one were driven. -/
def ownVerdicts (f : Frame) (last : Option Nat) (r : Reading × Reading × Reading) : Verdicts :=
  { d := r.1.ownGood f last, sa := r.2.1.ownGood f last, sb := r.2.2.ownGood f last }

/-- The active receiver's reading. -/
def activeReading (r : Reading × Reading × Reading) : LineMode → Reading
  | .full => r.1
  | .aOnly => r.2.1
  | .bOnly => r.2.2

/-- R35: the counts after a frame that reached the end of its check field, and a change of mode by them. -/
def State.countVerdicts (s : State) (v : Verdicts) : State :=
  let c := s.cluster
  match c.mode with
  | .full =>
    if v.d = false ∧ (v.sa = true ∨ v.sb = true) then
      if 1 ≤ c.fullCount then s.setMode (if v.sa then .aOnly else .bOnly) .count
      else s.setCluster { c with fullCount := 1 }
    else s.setCluster { c with fullCount := 0 }
  | _ =>
    if v.d then
      if 15 ≤ c.backCount then s.setMode .full .count else s.setCluster { c with backCount := c.backCount + 1 }
    else s.setCluster { c with backCount := 0 }

/-! ## Response and outcome (R32, R33) -/

/-- The outcomes of a frame (R33). -/
inductive FrameOutcome where
  | taken
  | vetoed
  | void
  deriving DecidableEq, Repr

/-- R33: the outcome of three response slots, dominant when true. -/
def outcomeOf (r : ResponseSlots) : FrameOutcome :=
  if r.ack && !r.fault then (if r.veto then .vetoed else .taken) else .void

/-- R32: the response slots that a receiver drives for its copy. -/
def Cluster.response (c : Cluster) : Option Frame → ResponseSlots
  | none => { ack := false, fault := true, veto := false }
  | some f => { ack := true, fault := false, veto := c.state == .member && c.rejects f }

/-- The slots as every station reads them: dominant where any station drives dominant. -/
def joinSlots (a b : ResponseSlots) : ResponseSlots :=
  { ack := a.ack || b.ack, fault := a.fault || b.fault, veto := a.veto || b.veto }

/-! ## What a taken frame does (R45 to R47, R50, R53 to R56, R61 to R63) -/

/-- R49, R50: an EXPIRE naming another station; of the table only the frames that apply to it change the row. -/
def Cluster.takeExpire (c : Cluster) (t : StationNo) (table : Bool) : Cluster :=
  if t = c.number then c
  else
    let peers := if table then c.peers.filter (fun r => r.station != t) else c.peers
    (({ c with peers := peers, silence := c.silence.filter (fun x => x.1 != t) } : Cluster).removeEntry t).withdrawExpire t

/-- Whether a station has a row or an entry. -/
def Cluster.knows (c : Cluster) (t : StationNo) : Bool := (c.peerRow t).isSome || (c.entryOf t).isSome

/-- R41, R57: a supply request of a consumer is held for the list. -/
def Cluster.heldSupply (c : Cluster) (k : Consumer) : Bool :=
  c.heldRequests.any (fun r => match r with | .supply _ k' => k' == k | _ => false)

/-- R54, R57: the own claim or top-up granted. A consumer that has asked again since keeps its request (log entry 17). -/
def Cluster.ownGranted (c : Cluster) (k : Consumer) (g : Nat) : Cluster :=
  let r := c.consumer k
  c.setConsumer k (if c.heldSupply k then { r with holding := r.holding + g }
                   else { holding := r.holding + g, request := .idle, claim := none })

/-- R57, R58: the own claim or top-up vetoed, or taken with a grant below its minimum. A consumer that has asked again, or asked for
release, since then keeps its request state (log entry 17). -/
def Cluster.ownRefused (c : Cluster) (k : Consumer) (topup : Bool) : Cluster :=
  let r := c.consumer k
  if c.heldSupply k || c.heldRelease k then c
  else c.setConsumer k { r with request := if topup then .idle else .waiting }

/-- R54: the own claim or top-up taken. -/
def Cluster.takeOwnClaim (c : Cluster) (k : Consumer) (lo hi : Nat) (topup : Bool) : Cluster :=
  let g := grantOf (c.budget.getD 0) c.tableSum hi
  if lo ≤ g then c.ownGranted k g else c.ownRefused k topup

/-- R54: another station's claim or top-up taken: its count grows by the grant. -/
def Cluster.takePeerClaim (c : Cluster) (n : StationNo) (k : Consumer) (hi : Nat) : Cluster :=
  c.growPeer n k (grantOf (c.budget.getD 0) c.tableSum hi)

/-- R55: the own RELEASE taken. -/
def Cluster.takeOwnRelease (c : Cluster) (k : Consumer) (u : Nat) : Cluster :=
  c.setConsumer k { c.consumer k with holding := (c.consumer k).holding - u }

/-- R45: the marks that a taken frame sets in LISTEN and JOINING. -/
def Cluster.mark (c : Cluster) (f : Frame) (ours : Bool) : Cluster :=
  if c.state = .listen ∨ c.state = .joining then
    let c := if f.sender = c.number ∧ ours = false then { c with duplicate := true } else c
    match f.body with
    | .roll r => if some r.budget ≠ c.budget then { c with budgetMark := true } else c
    | _ => c
  else c

/-- R56, R63: another station's ROLL taken; the second part is the TABLE CONFLICT notices. -/
def Cluster.takePeerRoll (c : Cluster) (n : StationNo) (r : RollFields) : Cluster × List Notice :=
  match c.state with
  | .member =>
    let x := c.rollRow n r
    (x.1.rollCallMember n r, x.2)
  | _ => (({ c with peers := insertRow { station := n, printer := r.printer, drawer := r.drawer } c.peers } : Cluster).rollCallOutside n r, [])

/-- R47: the own JOIN ROLL taken: the station is a MEMBER. The TABLE CONFLICT notices of the trim stand before the STATION notice (log entry 59). -/
def Cluster.becomeMember (c : Cluster) (r : RollFields) : Cluster × List Notice :=
  let x := c.trim
  let c := (x.1.removeEntry c.number).rollCallMember c.number r
  ({ c with state := .member, rollTimer := some 0, silence := c.known.map (fun n => (n, 0)) }, x.2)

/-- What the body of a taken frame does to the tables. `ours` says that this station sent it; a frame sent under the own number by another
station is not applied to the table or to the own entry (R53, R62; log entry 15). -/
def Cluster.takeBody (c : Cluster) (f : Frame) (ours : Bool) : Cluster × List Notice :=
  let foreign := !ours && f.sender == c.number
  match f.body with
  | .expire t => (c.takeExpire t (!foreign), [])
  | .callClear _ => (if foreign then c else c.removeEntry f.sender, [])
  | .callRaise r => (if foreign then c else c.applyRaise f.sender r, [])
  | .release k u => (if ours then c.takeOwnRelease k u else if foreign then c else c.lowerPeer f.sender k u, [])
  | .claim k lo hi => (if ours then c.takeOwnClaim k lo hi false else if foreign then c else c.takePeerClaim f.sender k hi, [])
  | .topup k lo hi => (if ours then c.takeOwnClaim k lo hi true else if foreign then c else c.takePeerClaim f.sender k hi, [])
  | .roll r =>
    let c := c.learnTicket r.ticket
    if ours then (if r.join then c.becomeMember r else (c.rollCallMember c.number r, []))
    else if foreign then (c, [])
    else c.takePeerRoll f.sender r

/-- Whether a taken frame is a retry event (R55, R50): a RELEASE, or an EXPIRE of another station that has a row or an entry. An EXPIRE of a station
with neither is none, by R50 and against R58 and R59's "each taken EXPIRE" (log entry 67). -/
def Cluster.isRetry (c : Cluster) : FrameBody → Bool
  | .release _ _ => true
  | .expire t => t != c.number && c.knows t
  | _ => false

/-- Whether a frame is a RELEASE, which may bring a top-up (R58). -/
def bodyIsRelease : FrameBody → Bool
  | .release _ _ => true
  | _ => false

/-- A list of notices placed in order. -/
def State.noticeAll (s : State) (ns : List Notice) : State := ns.foldl State.notice s

/-- A frame taken on the bus (R33): the marks, the tables, the outgoing list, the timers, the requests held for the bus, the retry events,
and what the lane learns of it. -/
def State.takeFrame (s : State) (f : Frame) (ours : Bool) : State :=
  let before := s.cluster
  let c := if ours then ({ before.dropOwn with failures := [] } : Cluster) else before
  let retry := c.isRetry f.body
  let x := (c.mark f ours).takeBody f ours
  let c := (((x.1.withdrawExpire f.sender).heard f.sender).leaveBus).refillExpire
  let c := if retry then c.retryEvent else c
  let s := (s.setCluster c).noticeAll x.2
  let s := if bodyIsRelease f.body then s.topupAfterRelease else s
  let s := s.setCluster s.cluster.syncSilence
  let s := s.callNoticeIfMoved before
  let s := if s.cluster.state = before.state then s else s.stationNotice before.state
  s.tellGrants

/-! ## The own frame vetoed, or failed (R33, R37, R38) -/

/-- R33, R46, R57: the own frame vetoed. -/
def State.ownVetoed (s : State) (f : Frame) : State :=
  let c : Cluster := { s.cluster.dropOwn with failures := [] }
  let c := match f.body with
    | .claim k _ _ => c.ownRefused k false
    | .topup k _ _ => c.ownRefused k true
    | _ => c
  let s := (s.setCluster c.leaveBus.refillExpire).tellGrants
  match f.body with
  | .roll r => if r.join then s.enterLone (if s.cluster.duplicate then .duplicate else .budget) else s
  | _ => s

/-- The results of line evaluation (R38). -/
inductive Evaluation where
  | alone
  | switch (m : LineMode)
  | line
  deriving DecidableEq, Repr

/-- The verdicts kept of a failed transmission. -/
def FailedSend.verdicts (f : FailedSend) : Verdicts := { d := f.d, sa := f.sa, sb := f.sb }

/-- R38: the first of D, SA and SB, the active receiver excepted, whose copy was good. -/
def Verdicts.other (v : Verdicts) (m : LineMode) : Option LineMode :=
  if v.d = true ∧ m ≠ .full then some .full
  else if v.sa = true ∧ m ≠ .aOnly then some .aOnly
  else if v.sb = true ∧ m ≠ .bOnly then some .bOnly
  else none

/-- R38: line evaluation. -/
def Cluster.evaluate (c : Cluster) : Evaluation :=
  if c.state = .joining ∧ c.failures.all (fun f => f.ackRecessive && f.verdicts.active c.mode) = true then .alone
  else
    match c.failures.find? (fun f => !f.verdicts.active c.mode) with
    | none => .line
    | some f =>
      match f.verdicts.other c.mode with
      | some m => .switch m
      | none => .line

/-- R37, R38: the own transmission failed; the frame stays pending, and at the fourth failure the line is evaluated. -/
def State.ownFailed (s : State) (x : FailedSend) : State :=
  let c := { s.cluster.leaveBus with failures := x :: s.cluster.failures }
  let s := (s.setCluster c).tellGrants
  if s.cluster.failures.length < 4 then s
  else
    match s.cluster.evaluate with
    | .alone => s.enterLone .alone
    | .switch m => s.setMode m .evaluation
    | .line => s.enterLone .line

/-! ## A frame at its end (R32, R33) -/

/-- Whether a frame is the own frame on the bus. -/
def Cluster.isOurs (c : Cluster) (f : Frame) : Bool :=
  match c.onBus with
  | some b => b.frame == f
  | none => false

/-- Whether the station decodes frames (R24). -/
def Cluster.listens (c : Cluster) : Bool := c.state == .listen || c.state == .joining || c.state == .member

/-- The own frame has left the bus without an outcome of its own: arbitration was lost (R30). -/
def State.lostArbitration (s : State) : State := (s.setCluster s.cluster.leaveBus).tellGrants

/-- R26, R31, R37: the own transmission aborted by a break, with the receivers' verdicts (log entry 14). -/
def State.ownAborted (s : State) (v : Verdicts) : State :=
  s.ownFailed { ackRecessive := true, faultDominant := false, d := v.d, sa := v.sa, sb := v.sb }

/-- The own frame at its outcome. -/
def State.ownOutcome (s : State) (f : Frame) (v : Verdicts) (others : ResponseSlots) : State :=
  match outcomeOf others with
  | .taken => s.takeFrame f true
  | .vetoed => s.ownVetoed f
  | .void => s.ownFailed { ackRecessive := !others.ack, faultDominant := others.fault, d := v.d, sa := v.sa, sb := v.sb }

/-- The own frame, read by the three receivers. Where the active receiver reads a slot otherwise than it is driven, arbitration is lost (R30)
or the station breaks its frame (R31; log entry 52), and no response field comes; otherwise the verdicts are counted (R35) and the response
slots of the others are acted on. -/
def State.ownFrameEnds (s : State) (f : Frame) (r : Reading × Reading × Reading) (others : ResponseSlots) : State :=
  let active := activeReading r s.cluster.mode
  match active.differsAt f with
  | none => (s.countVerdicts (ownVerdicts f none r)).ownOutcome f (ownVerdicts f none r) others
  | some p => if active.losesArbitration f then s.lostArbitration else s.ownAborted (ownVerdicts f (some p) r)

/-- Another station's frame at its outcome; `copy` is what the active receiver decoded. -/
def State.peerOutcome (s : State) (copy : Option Frame) (others : ResponseSlots) : State :=
  match outcomeOf (joinSlots (s.cluster.response copy) others), copy with
  | .taken, some f => s.takeFrame f false
  | _, _ => s.lostArbitration

/-- Another station's frame, read by the three receivers. A stuff violation found by the active receiver makes the station send a break, which
aborts the frame (R25, R26); otherwise the verdicts are counted (R35), and the active receiver of the mode they leave answers. -/
def State.peerFrameEnds (s : State) (f : Frame) (r : Reading × Reading × Reading) (others : ResponseSlots) : State :=
  if (activeReading r s.cluster.mode).violates then s.lostArbitration
  else
    let s := s.countVerdicts (peerVerdicts f r)
    s.peerOutcome ((activeReading r s.cluster.mode).copy f) others

/-- A frame has been on the bus: a station that listens and has decoded it from its start slot, or has sent it, acts on it (R24, R32, R33).
`others` are the response slots as the other stations drive them. -/
def State.frameEnds (s : State) (f : Frame) (h : Heard) (others : ResponseSlots) : State :=
  if s.cluster.listens then
    match readingsOf h (s.cluster.isOurs f) with
    | none => s
    | some r => if s.cluster.isOurs f then s.ownFrameEnds f r others else s.peerFrameEnds f r others
  else s

/-- The slots of other stations for a frame that they take. -/
def slotsTaken : ResponseSlots := { ack := true, fault := false, veto := false }

/-- The slots of other stations for a frame that they veto. -/
def slotsVetoed : ResponseSlots := { ack := true, fault := false, veto := true }

/-- R26, R31: a frame aborted by a break; of the own frame `v` holds the receivers' verdicts (log entry 14). -/
def State.frameAborts (s : State) (ours : Bool) (v : Verdicts) : State :=
  if s.cluster.listens = true ∧ s.cluster.onBus.isSome = true then
    if ours then s.ownAborted v else s.lostArbitration
  else s

/-! ## The station's timers (R45, R48, R49, R52) -/

/-- R45, R46: the station enters JOINING and asks for a ROLL. -/
def State.enterJoining (s : State) : State :=
  let before := s.cluster.state
  (s.setCluster { s.cluster with state := .joining, listen := none }.requestRoll).stationNotice before

/-- R45: the listen timer reaches 1000 ms. -/
def State.listenExpires (s : State) : State :=
  match s.cluster.state, s.cluster.listen with
  | .listen, some _ =>
    if s.cluster.duplicate then s.enterLone .duplicate
    else if s.cluster.budgetMark then s.enterLone .budget
    else if s.cluster.budget.getD 0 < s.cluster.tableSum then s.setCluster { s.cluster with listen := some 0 }
    else s.enterJoining
  | _, _ => s

/-- R48: the roll timer reaches 500 ms. -/
def Cluster.rollExpires (c : Cluster) : Cluster :=
  match c.state, c.rollTimer with
  | .member, some _ => { c.requestRoll with rollTimer := some 0 }
  | _, _ => c

/-- The silence limit, at which a timer stops (R49). -/
def silenceLimit : Nat := ms 1500

/-- R49: a silence timer reaches 1500 ms. -/
def Cluster.silenceExpires (c : Cluster) (n : StationNo) : Cluster :=
  if c.state = .member ∧ c.silence.any (fun t => t.1 == n && decide (t.2 < silenceLimit)) = true then
    ({ c with silence := c.silence.map (fun t => if t.1 = n then (n, silenceLimit) else t) } : Cluster).requestExpire n
  else c

/-- R52: the retry timer reaches 10 s. -/
def State.retryExpires (s : State) : State :=
  match s.cluster.state, s.cluster.retry with
  | .lone, some _ => (s.setCluster { s.cluster with retry := none, retryPassed := true }).leaveLoneWhenFree
  | _, _ => s

/-- R44, R45: the cluster unit at CONFIGURE. -/
def State.startCluster (s : State) (budget : Nat) : State := (s.setCluster { s.cluster with budget := some budget }).enterListen

end Sys2Proof.Machine
end

