-- ==== Sys2Proof/Machine/Sales.lean ====
section
/-! DEFINITION. The host's commands (section 11.5): their checks in order, their effects, and their replies. A command's rule answers with
the state and the reply formed, which only an accepted READ JOURNAL leaves for later (R182). -/

namespace Sys2Proof.Machine

/-- What a command leaves: the state, and its reply when it is formed in the step. -/
abbrev Taken := State × Option ReplyBody

/-- REFUSED: nothing was done. -/
def State.refuse (s : State) (r : RefusalReason) : Taken := (s, some (.refused r))

/-- DONE with its fields. -/
def State.done (s : State) (f : ReplyFields) : Taken := (s, some (.done f))

/-- ACCEPTED with its fields. -/
def State.accepted (s : State) (f : ReplyFields) : Taken := (s, some (.accepted f))

/-- R182: a command that needs the part RUNNING is refused NO_CONFIG before its own checks. -/
def State.whenRunning (s : State) (f : State → Taken) : Taken := if s.link.part = .running then f s else s.refuse .noConfig

/-! ## Settlement (R17, R18) -/

/-- R9: the fields of a sale command's DONE; the change when the command brought the sale into SETTLED. -/
def State.saleReport (s : State) : SaleReport :=
  { state := s.sale.state, total := s.sale.total, due := s.sale.due,
    change := if s.sale.state = .settled then some s.sale.change else none }

/-- R17, R18: with a CASH tender the drawer-used flag is set and a kick requested. -/
def State.kickForCash (s : State) : State :=
  if s.sale.tenders.any Tender.isCash then (s.setSale { s.sale with drawerUsed := true }).requestKick else s

/-- R17: entry to SETTLED. -/
def State.settle (s : State) : State :=
  let paid := (s.sale.tenders.map (fun t => t.amount)).sum
  let s := s.setSale { s.sale with state := .settled, change := paid - s.sale.total, commit := .pending, print := .running }
  (((s.handOver (.sale false)).requestReceipt .sale).kickForCash).testCompletion

/-- R15, R16: a tender appended; the due is recomputed, and at 0 the sale settles. -/
def State.addTender (s : State) (t : Tender) : State :=
  let s := s.setSale ({ s.sale with tenders := s.sale.tenders ++ [t] } : Sale).redue
  if s.sale.due = 0 then s.settle else s

/-- R18: the sale is voided. -/
def State.voidSaleNow (s : State) : State :=
  let s := s.setSale { s.sale with state := .voided }
  let s := (s.endCapture .voided).clearExpectations
  let s := if s.card.held.isSome then s.wipeHeld else s
  let s := s.setSale { s.sale with commit := .pending, print := .running }
  (((s.handOver (.sale true)).requestReceipt .voidSale).kickForCash).testCompletion

/-! ## Sale commands (Chapter 1) -/

/-- R10: OPEN SALE. -/
def State.openSale (reference stamp : BitVec 32) (s : State) : Taken :=
  if s.sale.state ≠ .idle then s.refuse .badState
  else
    match s.journal.identity with
    | .written _ _ =>
      if s.journal.level = .fault then s.refuse .journalFault
      else if s.journal.level = .full then s.refuse .journalFull
      else if s.drawer.state ≠ .closed then s.refuse .drawerOpen
      else
        let s := s.setSale { Sale.idle with state := .opened, reference := reference, stamp := stamp }
        s.done (.sale s.saleReport)
    | _ => s.refuse .noIdentity

/-- R11: the ranges of an ADD LINE. -/
def lineFieldsInRange (f : LineFields) : Bool :=
  textIn 1 24 f.desc && decide (1 ≤ f.quantity) && decide (f.quantity ≤ 999) && decide (f.price ≤ 999999) &&
  (match f.expected with
   | some (g, t) => decide (1 ≤ g) && decide (g ≤ 30000) && decide (t ≤ 3000)
   | none => true)

/-- R12: the amount that the capture reservation holds. -/
def Sale.reserved (s : Sale) : Nat := s.reservation.getD 0

/-- R12: the line places in use, the reservation's one included. -/
def Sale.placesUsed (s : Sale) : Nat := s.lines.length + (if s.reservation.isSome then 1 else 0)

/-- The expectation that an ADD LINE posts: the expected weight and tolerance, unless the line carries the "no bag" mark. -/
def postingOf (f : LineFields) : Option (Nat × Nat) := if f.noBag then none else f.expected

/-- R11: the line of an ADD LINE. -/
def itemLine (f : LineFields) : Line :=
  { kind := .item f.quantity, desc := f.desc, price := f.price, amount := itemAmount f.quantity f.price, voided := false,
    bag := if (postingOf f).isSome then .pending else .skipped, expected := f.expected }

/-- R11: ADD LINE once its checks have passed. -/
def State.appendItem (s : State) (f : LineFields) : Taken :=
  let index := s.sale.lines.length
  let s := s.setSale (s.sale.append (itemLine f))
  let s := match postingOf f with
    | some (g, t) => s.postPlace index (baggingDivisions g) (baggingDivisions t)
    | none => s
  s.done (.line s.saleReport index (itemLine f).amount)

/-- R11: ADD LINE. -/
def State.addLine (f : LineFields) (s : State) : Taken :=
  if s.sale.state ≠ .opened then s.refuse .badState
  else if s.held then s.refuse .held
  else if lineFieldsInRange f = false then s.refuse .range
  else if 9999999 < itemAmount f.quantity f.price then s.refuse .range
  else if 99999999 < s.sale.total + s.sale.reserved + itemAmount f.quantity f.price then s.refuse .range
  else if 64 ≤ s.sale.placesUsed then s.refuse .full
  else if (postingOf f).isSome = true ∧ 4 ≤ s.bagging.entries.length then s.refuse .full
  else s.appendItem f

/-- R13: VOID LINE once its checks have passed. -/
def State.voidLineNow (s : State) (i : Nat) (l : Line) : Taken :=
  let sale := { s.sale with lines := changeAt (fun l => { l with voided := true }) i s.sale.lines, total := s.sale.total - l.amount }
  let s := (s.setSale sale.redue).baggingVoid i l.bag
  s.done (.sale s.saleReport)

/-- R13: VOID LINE. -/
def State.voidLine (i : Nat) (s : State) : Taken :=
  if s.sale.state ≠ .opened then s.refuse .badState
  else if s.authority.present = false then s.refuse .noAuthority
  else
    match s.sale.lines[i]? with
    | none => s.refuse .range
    | some l =>
      if l.voided then s.refuse .badState
      else if l.bag = .bagged ∧ 4 ≤ s.bagging.entries.length then s.refuse .full
      else s.voidLineNow i l

/-- R14: TOTAL. -/
def State.total (s : State) : Taken :=
  if s.sale.state ≠ .opened then s.refuse .badState
  else if s.bagging.entries.isEmpty = false then s.refuse .bagPending
  else if s.cluster.ownReasons &&& baggingReasons ≠ 0 then s.refuse .bagPending
  else if s.journal.level = .full then s.refuse .journalFull
  else
    let s := s.endCapture .voided
    let s := if 0 < s.sale.total then s.setSale { s.sale with state := .tender, due := s.sale.total } else s.settle
    s.done (.sale s.saleReport)

/-- R15: TENDER CASH. -/
def State.tenderCash (amount : Nat) (s : State) : Taken :=
  if s.sale.state ≠ .tender then s.refuse .badState
  else if 4 ≤ s.sale.tenders.length then s.refuse .full
  else if amount < 1 ∨ 99999999 < amount then s.refuse .range
  else
    let s := s.addTender { kind := .cash, amount := amount }
    s.done (.sale s.saleReport)

/-- R16: TENDER CARD. -/
def State.tenderCard (amount : Nat) (approval : Text) (s : State) : Taken :=
  if s.sale.state ≠ .tender then s.refuse .badState
  else if 4 ≤ s.sale.tenders.length then s.refuse .full
  else
    match s.card.held with
    | none => s.refuse .noCard
    | some r =>
      match r.account with
      | none => s.refuse .noCard
      | some account =>
        if amount < 1 ∨ s.sale.due < amount ∨ textIn 1 8 approval = false then s.refuse .range
        else
          let s := s.wipeHeld.addTender { kind := .card (maskAccount account) approval, amount := amount }
          s.done (.card s.saleReport r.overrun)

/-- Whether a tender is CARD. -/
def Tender.isCard (t : Tender) : Bool := !t.isCash

/-- R18: VOID SALE. -/
def State.voidSale (s : State) : Taken :=
  if s.sale.state ≠ .opened ∧ s.sale.state ≠ .tender then s.refuse .badState
  else if s.authority.present = false then s.refuse .noAuthority
  else if s.sale.tenders.any Tender.isCard then s.refuse .tendered
  else
    let s := s.voidSaleNow
    s.done (.sale s.saleReport)

/-! ## Weighing commands (Chapters 4 and 5) -/

/-- R12: whether the worst-case amount of a price passes both bounds. -/
def State.worstFits (s : State) (price : Nat) : Bool :=
  decide (weighedAmount worstGrams price ≤ 9999999) && decide (s.sale.total + weighedAmount worstGrams price ≤ 99999999)

/-- R86: WEIGH ITEM accepted; with the produce channel in FAULT the capture ends FAULT at once. -/
def State.startCapture (s : State) (desc : Text) (price : Nat) (bag : Bool) : Taken :=
  let phase := if s.capture.interlock then CapturePhase.waitZero else CapturePhase.waitStable
  let s := (s.setCapture { s.capture with flight := some { phase := phase, desc := desc, price := price, bag := bag, timer := 0 } }).setSale
    { s.sale with reservation := some (weighedAmount worstGrams price) }
  let s := if s.scale.produce.state = .fault then s.endCapture .fault else s
  s.accepted (.capture phase)

/-- R12, R86: WEIGH ITEM. -/
def State.weighItem (desc : Text) (price bag : Nat) (s : State) : Taken :=
  if s.sale.state ≠ .opened then s.refuse .badState
  else if s.held then s.refuse .held
  else if s.capture.flight.isSome then s.refuse .busy
  else if textIn 1 24 desc = false ∨ 999999 < price ∨ 1 < bag then s.refuse .range
  else if s.worstFits price = false then s.refuse .range
  else if 64 ≤ s.sale.lines.length then s.refuse .full
  else s.startCapture desc price (bag == 1)

/-- R90: CANCEL WEIGH. -/
def State.cancelWeigh (s : State) : Taken :=
  if s.capture.flight.isNone then s.refuse .badState else (s.endCapture .cancelled).done .nothing

/-- R70: RESTART SCALE. -/
def State.restartScale (s : State) : Taken :=
  if s.scale.gen.bridge = .fault then s.refuse .badState
  else (s.setScale { s.scale with gen := { s.scale.gen with restart := true } }).done .nothing

/-- R80: SET ZERO. -/
def State.setZero (s : State) : Taken :=
  let c := s.scale.produce
  if s.capture.flight.isSome then s.refuse .busy
  else if c.state ≠ .ready then s.refuse .badState
  else if c.stable = false then s.refuse .busy
  else
    match c.filtered with
    | none => s.refuse .range
    | some f =>
      if c.offsetAllowed f then
        (s.setScale { s.scale with produce := { c with zeroRef := f, tare := none, weights := [], stable := false, gross := some 0,
                                                       net := some 0 } }).done (.gross 0)
      else s.refuse .range

/-- R81: the tare takes a number of divisions. -/
def State.takeTare (s : State) (d : Nat) : Taken :=
  let c := s.scale.produce
  (s.setScale { s.scale with produce := { c with tare := some d } }).done (.tare (d * 5) ((c.gross.getD 0 - (d : Int)) * 5))

/-- R81: whether a channel is in a state in which a preset tare is taken. -/
def ChannelState.weighs : ChannelState → Bool
  | .ready => true
  | .overload => true
  | .underload => true
  | _ => false

/-- R81: SET TARE. -/
def State.setTare (preset : Option Nat) (s : State) : Taken :=
  let c := s.scale.produce
  if s.capture.flight.isSome then s.refuse .busy
  else
    match preset with
    | some g =>
      let d := gramsToDivisions g 5
      if c.state.weighs = false then s.refuse .badState
      else if g < 1 ∨ 15000 < g ∨ d < 1 then s.refuse .range
      else s.takeTare d
    | none =>
      let gross := c.gross.getD 0
      if c.state ≠ .ready then s.refuse .badState
      else if c.stable = false then s.refuse .busy
      else if gross ≤ 0 ∨ 3000 < gross then s.refuse .range
      else s.takeTare gross.toNat

/-- R82: CLEAR TARE. While no weight stands the reply's net is absent (log entry 44). -/
def State.clearTare (s : State) : Taken :=
  if s.capture.flight.isSome then s.refuse .busy
  else
    let s := s.clearTareNow
    s.done (.net s.scale.produce.netGrams)

/-! ## Card, cluster, drawer and tone commands (Chapters 3, 6 and 7) -/

/-- R116: DISCARD CARD. -/
def State.discardCard (s : State) : Taken :=
  match s.card.held with
  | none => s.refuse .noCard
  | some r => s.wipeHeld.done (.overrun r.overrun)

/-- R65: RAISE ASSIST. -/
def State.raiseAssist (s : State) : Taken :=
  let s := s.raise .assist
  s.done (.wanted s.cluster.wanted)

/-- R65: WITHDRAW ASSIST. -/
def State.withdrawAssist (s : State) : Taken :=
  let s := s.withdraw .assist
  s.done (.wanted s.cluster.wanted)

/-- R131: the authority source recorded: CARD if the window is running, KEY otherwise. -/
def Authority.source (a : Authority) : AuthSource := if a.window.isSome then .card else .key

/-- R131: NO SALE. -/
def State.noSale (s : State) : Taken :=
  if s.authority.present = false then s.refuse .noAuthority
  else if s.sale.state ≠ .idle then s.refuse .badState
  else if s.journal.level = .fault then s.refuse .journalFault
  else if s.journal.level = .full then s.refuse .journalFull
  else if s.drawer.noSale = true ∨ s.journal.noSaleWaiting = true then s.refuse .journalBusy
  else if s.drawer.takesKick = false then s.refuse .busy
  else ((s.setDrawer { s.drawer with noSale := true, noSaleSource := s.authority.source }).requestKick).accepted .nothing

/-- R132: RETRY DRAWER. -/
def State.retryDrawer (s : State) : Taken :=
  if s.authority.present = false then s.refuse .noAuthority
  else
    match s.drawer.state with
    | .jammed => s.requestKick.accepted .nothing
    | .closed => s.refuse .badState
    | _ => s.refuse .busy

/-- R137: the tone of a PLAY TONE, by its position. -/
def toneOf : Nat → Option ToneName
  | 0 => some .alarm
  | 1 => some .alert
  | 2 => some .double
  | 3 => some .chirp
  | _ => none

/-- R137: PLAY TONE. -/
def State.playTone (tone : Nat) (s : State) : Taken :=
  match toneOf tone with
  | none => s.refuse .range
  | some t =>
    let began := toneBegins s.tone t
    let s := s.requestTone t .host
    s.done (.toneResult began (s.tone.map (fun p => p.tone)))

/-- R137: STOP TONE. -/
def State.stopTone (s : State) : Taken := (s.setTone none).done (.toneStopped (s.tone.map (fun p => p.tone)))

/-! ## Receipt and journal commands (Chapters 9 and 10) -/

/-- R163: REPRINT LAST. -/
def State.reprintLast (s : State) : Taken :=
  if s.authority.present = false then s.refuse .noAuthority
  else if s.sale.state ≠ .idle then s.refuse .badState
  else if s.engine.state ≠ .idle then s.refuse .busy
  else
    match s.journal.lastSale with
    | none => s.refuse .noRecord
    | some l =>
      let s := s.setComposer { s.composer with copy := some { seq := l.seq, addr := l.addr, check := .unknown, bytes := [],
                                                              reading := false } }
      (s.takeJob .copy).accepted (.copySource l.seq)

/-- R168: WRITE IDENTITY once its checks have passed: a DAMAGED block 0 is erased first. -/
def Journal.startIdentity (j : Journal) (store : Nat) (label : Text) : Journal :=
  let w := { store := store, label := label, erase := j.identity == .damaged, programs := recordPrograms 0 (identityBytes store label),
             touched := false : IdentityWrite }
  if w.erase then ({ j with identityWrite := some w } : Journal).arbitrate else j.askIdentity w

/-- R168: WRITE IDENTITY. -/
def State.writeIdentity (store : Nat) (label : Text) (s : State) : Taken :=
  if s.link.part = .starting then s.refuse .noConfig
  else if 9999 < store ∨ textIn 1 8 label = false then s.refuse .range
  else
    match s.journal.identity with
    | .written _ _ => s.refuse .locked
    | _ =>
      if s.journal.identityWrite.isSome then s.refuse .busy
      else if s.journal.level = .fault then s.refuse .journalFault
      else (s.setJournal (s.journal.startIdentity store label)).accepted .nothing

/-- R177: READ JOURNAL. Its reply is formed when its reads complete. -/
def State.readJournal (tag : Byte) (q : Seq) (offset : Nat) (s : State) : Taken :=
  if s.link.reserved.isSome then s.refuse .busy
  else
    match s.journal.blockOf q with
    | none => s.refuse .noRecord
    | some b =>
      match findRecord s.journal.array b q with
      | none => s.refuse .noRecord
      | some r =>
        if r.length ≤ offset then s.refuse .range
        else
          let j := { s.journal with reader := some { tag := tag, seq := q, offset := offset, block := b, walk := 0, found := none } }
          ((s.setJournal (j.ask (.read .reader (b * blockSize) (headerRead 0)))).setLink { s.link with reserved := some tag }, none)

/-- R178: the sequence of a CONFIRM EXPORT is higher than the mark and than a waiting MARK's value, and not higher than the last committed
sequence. -/
def Journal.exportAllowed (j : Journal) (q : Seq) : Bool :=
  seqHigher q j.mark && (match j.waitingMark with | some v => seqHigher q v | none => true) && !seqHigher q j.lastSeq

/-- R178: a MARK append, merged into the one that waits or queued. -/
def State.queueMark (s : State) (q : Seq) : State :=
  if s.journal.waitingMark.isSome then
    s.setJournal { s.journal with queue := s.journal.queue.map (fun a => if a.isMark then .mark q else a) }
  else s.handOver (.mark q)

/-- R178: CONFIRM EXPORT. -/
def State.confirmExport (q : Seq) (s : State) : Taken :=
  if s.journal.level = .fault then s.refuse .journalFault
  else if s.journal.exportAllowed q = false then s.refuse .range
  else (s.queueMark q).accepted .nothing

/-! ## CONFIGURE (R185) -/

/-- A signed value of 24 bits. -/
def in24 (z : Int) : Bool := decide (-8388608 ≤ z) && decide (z ≤ 8388607)

/-- A span (R74). -/
def spanInRange (n : Nat) : Bool := decide (1 ≤ n) && decide (n ≤ 65535)

/-- R185: the ranges of the values. -/
def configInRange (v : ConfigValues) : Bool :=
  decide (8 ≤ v.budget) && decide (v.budget ≤ 60) && decide (1 ≤ v.headMax) && decide (v.headMax ≤ 16) &&
  decide (10 ≤ v.period) && decide (v.period ≤ 40) && in24 v.produceZero && spanInRange v.produceSpan &&
  in24 v.baggingZero && spanInRange v.baggingSpan && decide (40 ≤ v.kickWidth) && decide (v.kickWidth ≤ 200) &&
  decide (v.prefixes.length ≤ 4) &&
  v.prefixes.all (fun p => decide (4 ≤ p.length) && decide (p.length ≤ 8) && p.all isDigit) &&
  decide (v.headers.length ≤ 4) && v.headers.all (textIn 1 42) && decide (v.decimals ≤ 3)

/-- R124: the drawer controller at CONFIGURE. -/
def Drawer.configured (d : Drawer) (width : Nat) : Drawer :=
  { d with kickWidth := width, openTimer := if d.state = .opened then some 0 else none, alarmAsked := false }

/-- R185: each block takes its values, and the part enters RUNNING. Its notices of print, journal and bus priority stand in the order PART, STATION, NEAR
END (log entry 59). -/
def State.configureNow (s : State) (v : ConfigValues) : State :=
  let s := (s.setLink { s.link with part := .running }).notice (.part .running none)
  let s := ((s.startCluster v.budget).startScale v).setDrawer (s.drawer.configured v.kickWidth)
  let s := (s.startEngine v.headMax).settleKey
  (s.setCard { s.card with prefixes := v.prefixes }).setComposer { s.composer with headers := v.headers, decimals := v.decimals }

/-- R185: CONFIGURE. -/
def State.configure (v : ConfigValues) (s : State) : Taken :=
  match s.link.part with
  | .starting => s.refuse .noConfig
  | .running => s.refuse .badState
  | .unconfigured => if configInRange v then (s.configureNow v).done .nothing else s.refuse .range

/-! ## READ STATUS (R186) -/

/-- R117: the window's remaining time in whole seconds; 0 when the timer is stopped (log entry 46). -/
def Authority.remaining (a : Authority) : Nat :=
  match a.window with
  | some t => (sec 30 - t) / sec 1
  | none => 0

/-- R133: the open timer in whole seconds, 0 while it is stopped (log entry 46). -/
def Drawer.openSeconds (d : Drawer) : Nat :=
  match d.openTimer with
  | some t => t / sec 1
  | none => 0

/-- R123: the debounced levels of the inputs. -/
def Sense.levels (s : Sense) : SenseLevels :=
  { drawer := s.drawer.debounced, paper := s.paper.debounced, cover := s.cover.debounced, nearEnd := s.nearEnd.debounced,
    cutterHome := s.cutterHome.debounced, key := s.key.debounced, spare1 := s.spare1.debounced, spare2 := s.spare2.debounced }

/-- R123: the matching marks of the watches, in the order of R122. -/
def Sense.marks (s : Sense) : List Bool :=
  [s.watchDrawer.matching, s.watchMedia.matching, s.watchNearEnd.matching, s.watchKey.matching, s.watchCutter.matching]

/-- R186: the snapshot. The produce net is that of R74, in whatever state the channel is, and absent while no weight stands (log entry 44). With no card
record held the overrun mark is reported clear (log entry 46). -/
def State.statusReport (s : State) : StatusReport :=
  { part := s.link.part, straps := s.link.straps, lost := s.link.lost, saleState := s.sale.state, total := s.sale.total,
    due := s.sale.due, lineCount := s.sale.lines.length, tenderCount := s.sale.tenders.length, commit := s.sale.commit,
    print := s.sale.print, station := s.cluster.state, loneCause := s.cluster.loneCause, mode := s.cluster.mode,
    printerUnits := s.cluster.printer.holding, drawerUnits := s.cluster.drawer.holding, wanted := s.cluster.wanted,
    place := s.cluster.ownPlace, ticket := s.cluster.ownEntry.bind (fun e => e.ticket), light := s.cluster.light,
    produce := s.scale.produce.state, bagging := s.scale.bagging.state, net := s.scale.produce.netGrams,
    tare := s.scale.produce.tare.map (fun t => t * 5), capture := s.capture.flight.map (fun c => c.phase),
    interlock := s.capture.interlock, buffer := s.card.bufferState,
    overrun := (s.card.held.map (fun r => r.overrun)).getD false, authority := s.authority.present,
    windowSeconds := s.authority.remaining, key := s.authority.key, levels := s.sense.levels, marks := s.sense.marks,
    drawer := s.drawer.state, jam := s.drawer.jam, openSeconds := s.drawer.openSeconds, noSale := s.drawer.noSale,
    engine := s.engine.state, job := s.engine.job, holding := s.printerHolding, headTemp := s.engine.headTemp,
    paperOut := s.engine.paperOut, printerJam := s.cluster.wanted.has .printerJam, nearEnd := s.sense.nearEnd.debounced,
    waitingAppends := s.journal.queue.length, takenKind := s.journal.taken.map (fun t => t.kind), level := s.journal.level,
    available := s.journal.available, lastSeq := s.journal.lastSeq, lastReceipt := s.journal.lastReceipt, mark := s.journal.mark,
    identity := s.journal.identity }

/-- R186: READ STATUS; the LOST mark is cleared. -/
def State.readStatus (s : State) : Taken := (s.setLink { s.link with lost := false }).done (.status s.statusReport)

/-! ## LANE RESET (R187) -/

/-- R22: the sale controller's part: the capture ends VOIDED, the expectation list is cleared, the sale's untaken append is removed, and
the record is discarded. -/
def State.discardSale (s : State) : State :=
  let s := (s.endCapture .voided).clearExpectations
  let s := s.setJournal { s.journal with queue := s.journal.queue.filter (fun a => !a.isSale) }
  (s.setSale .idle).setBagging { s.bagging with kept := [] }

/-- R78, R82: the scale's part. -/
def State.scaleLaneReset (s : State) : State :=
  (s.setScale { s.scale with bagging := { s.scale.bagging with baselineWanted := true } }).clearTareNow

/-- R187: LANE RESET, in its order. -/
def State.laneResetNow (s : State) : State :=
  let s := s.discardSale.scaleLaneReset
  let s := (s.setCard s.card.laneReset).authorityLaneReset
  (s.drawerLaneReset.abandonJob).setTone none

/-- R187: LANE RESET. -/
def State.laneReset (s : State) : Taken :=
  s.laneResetNow.done
    (.laneReset s.sale.state (s.sale.state != .idle) s.capture.flight.isSome (s.engine.state != .idle))

end Sys2Proof.Machine
end

