-- ==== Sys2Proof/Machine/Link.lean ====
section
/-! DEFINITION. The lane link at work (Chapter 11): the taking of a command and its reply, the receive assembler, the transmitter, and the
hardware resets; with the events of the tone unit and of the excitation generator that need no more than one field. -/

namespace Sys2Proof.Machine

/-! ## Commands and replies (R182) -/

/-- R182, section 11.5: the rule of a command. READ STATUS is taken in every part state; CONFIGURE and WRITE IDENTITY check the part state
themselves; every other command needs the part RUNNING. -/
def State.perform (s : State) (tag : Byte) : HostCommand → Taken
  | .openSale r t => s.whenRunning (State.openSale r t)
  | .addLine f => s.whenRunning (State.addLine f)
  | .voidLine i => s.whenRunning (State.voidLine i)
  | .total => s.whenRunning State.total
  | .tenderCash a => s.whenRunning (State.tenderCash a)
  | .tenderCard a t => s.whenRunning (State.tenderCard a t)
  | .voidSale => s.whenRunning State.voidSale
  | .weighItem d p b => s.whenRunning (State.weighItem d p b)
  | .cancelWeigh => s.whenRunning State.cancelWeigh
  | .restartScale => s.whenRunning State.restartScale
  | .setZero => s.whenRunning State.setZero
  | .setTare g => s.whenRunning (State.setTare g)
  | .clearTare => s.whenRunning State.clearTare
  | .discardCard => s.whenRunning State.discardCard
  | .raiseAssist => s.whenRunning State.raiseAssist
  | .withdrawAssist => s.whenRunning State.withdrawAssist
  | .noSale => s.whenRunning State.noSale
  | .retryDrawer => s.whenRunning State.retryDrawer
  | .playTone t => s.whenRunning (State.playTone t)
  | .stopTone => s.whenRunning State.stopTone
  | .reprintLast => s.whenRunning State.reprintLast
  | .writeIdentity n l => s.writeIdentity n l
  | .readJournal q o => s.whenRunning (State.readJournal tag q o)
  | .confirmExport q => s.whenRunning (State.confirmExport q)
  | .configure v => s.configure v
  | .readStatus => s.readStatus
  | .laneReset => s.whenRunning State.laneReset

/-- R182: the reply takes its place in the list, unless it is formed later. -/
def concludeCommand (kind tag : Byte) (x : Taken) : State :=
  match x.2 with
  | some b => x.1.reply kind tag b
  | none => x.1

/-- R182: a command is handed to its owner and answered. -/
def State.takeCommand (s : State) (tag : Byte) (c : HostCommand) : State := concludeCommand c.kind tag (s.perform tag c)

/-- R182: the body of a good message is handed over. One whose length does not fit its KIND is refused RANGE in every part state, before NO_CONFIG
(log entry 41). -/
def State.takeBody (s : State) (body : List Byte) : State :=
  match readBody body with
  | .command tag c => s.takeCommand tag c
  | .refused kind tag r => s.reply kind tag (.refused r)

/-- The places of the reply list (R182). -/
def replyPlaces : Nat := 4

/-- The assembler with a good message that waits for a reply place (R182): the message stays in its buffer. -/
def Assembler.holding (a : Assembler) (body : List Byte) : Assembler :=
  { a with state := .check, buffer := BitVec.ofNat 8 body.length :: (body ++ [checkByte body]), due := 0, errors := .clear,
           gap := none, held := some body, dropped := 0 }

/-- The characters of a message with a body of n bytes: SYNC, LENGTH, the body and CHECK. -/
def messageSize (n : Nat) : Nat := n + 3

/-- R182: the message of a command has been received whole. It is handed over when a place is free; otherwise the assembler holds it; and
while the assembler holds another its characters are dropped (log entry 4). -/
def State.arrive (s : State) (tag : Byte) (c : HostCommand) : State :=
  match s.link.assembler.held with
  | some _ =>
    s.setLink { s.link with assembler := { s.link.assembler with
      dropped := s.link.assembler.dropped + messageSize (c.body tag).length } }
  | none =>
    if s.link.places < replyPlaces then s.takeCommand tag c
    else s.setLink { s.link with assembler := s.link.assembler.holding (c.body tag) }

/-! ## The receive assembler (R180, R181) -/

/-- R180: the parity bit makes the count of 1s odd. -/
def LinkChar.parityGood (c : LinkChar) : Bool := ((bitsOf 8 c.data.toNat).filter id).length % 2 != c.parity.toNat

/-- R180: whether a character has status GOOD. -/
def LinkChar.good (c : LinkChar) : Bool := LinkChar.parityGood c && c.stop

/-- R180, R181: the errors seen, with those of a character added; a character has one status, and of two it is a free value which
(log entry 12). -/
def LinkErrors.see (e : LinkErrors) (c : LinkChar) : LinkErrors :=
  match LinkChar.parityGood c, c.stop with
  | true, true => e
  | false, true => { e with parity := true }
  | true, false => { e with framing := true }
  | false, false => if Config.parityBeforeFraming then { e with parity := true } else { e with framing := true }

/-- The SYNC byte (R188). -/
def syncByte : Byte := 0x7E

/-- The state with another assembler. -/
def State.setAssembler (s : State) (a : Assembler) : State := s.setLink { s.link with assembler := a }

/-- R181: a message is discarded: one LINK ERROR notice, and the assembler is in HUNT. -/
def State.discardMessage (s : State) (e : LinkErrors) (chars : Nat) : State := (s.setAssembler .reset).linkError e chars

/-- R181, R182: a complete message is good: it is handed over, or held while no place is free. -/
def State.acceptMessage (s : State) (body : List Byte) : State :=
  if s.link.places < replyPlaces then (s.setAssembler .reset).takeBody body
  else s.setAssembler (s.link.assembler.holding body)

/-- The body of a message whose LENGTH and body stand in the buffer. -/
def Assembler.messageBody (a : Assembler) : List Byte := a.buffer.drop 1

/-- R181: the CHECK character arrives, and the complete message is judged. -/
def State.completeMessage (s : State) (c : LinkChar) : State :=
  let a := s.link.assembler
  let errors := LinkErrors.see a.errors c
  let chars := a.buffer.length + 2
  if errors ≠ .clear then s.discardMessage errors chars
  else if c.data ≠ checkByte a.messageBody then s.discardMessage { errors with check := true } chars
  else s.acceptMessage a.messageBody

/-- R181: a character in LENGTH. -/
def State.lengthCharacter (s : State) (c : LinkChar) : State :=
  let a := s.link.assembler
  let errors := LinkErrors.see a.errors c
  if c.data = 0 then s.discardMessage { errors with length := true } 2
  else s.setAssembler { a with state := .body, buffer := [c.data], due := c.data.toNat, errors := errors, gap := some 0 }

/-- R181: a character in BODY. -/
def State.bodyCharacter (s : State) (c : LinkChar) : State :=
  let a := s.link.assembler
  s.setAssembler { a with state := if a.due ≤ 1 then .check else .body, buffer := a.buffer ++ [c.data], due := a.due - 1,
                          errors := LinkErrors.see a.errors c, gap := some 0 }

/-- R181: a character in HUNT. -/
def State.huntCharacter (s : State) (c : LinkChar) : State :=
  if c.data = syncByte ∧ LinkChar.good c = true then
    s.setAssembler { s.link.assembler with state := .length, buffer := [], due := 0, errors := .clear, gap := some 0 }
  else s

/-- R181, R182: a character arrives: dropped while a message is held, and otherwise handled by the assembler's state. -/
def State.characterArrives (s : State) (c : LinkChar) : State :=
  match s.link.assembler.held with
  | some _ => s.setAssembler { s.link.assembler with dropped := s.link.assembler.dropped + 1 }
  | none =>
    match s.link.assembler.state with
    | .hunt => s.huntCharacter c
    | .length => s.lengthCharacter c
    | .body => s.bodyCharacter c
    | .check => s.completeMessage c

/-- R181: the character that completes a message arrives; in any other state of the assembler none does (log entry 3). -/
def State.messageCompletes (s : State) (c : LinkChar) : State :=
  match s.link.assembler.held, s.link.assembler.state with
  | none, .check => s.completeMessage c
  | _, _ => s

/-- R181: the gap timer reaches 20 ms before the message is complete. -/
def State.gapExpiresInMessage (s : State) : State :=
  let a := s.link.assembler
  match a.gap with
  | none => s
  | some _ => s.discardMessage { a.errors with gap := true } (a.buffer.length + 1)

/-- R182: the errors of a LINK ERROR notice for characters dropped while a message was held. -/
def overrunOnly : LinkErrors := { LinkErrors.clear with overrun := true }

/-- R182: the held message is handed over once a place is free, with a LINK ERROR notice if characters were dropped, which stands before the notices
of its command (log entry 59). -/
def State.handOverHeld (s : State) : State :=
  let a := s.link.assembler
  match a.held with
  | none => s
  | some body =>
    if s.link.places < replyPlaces then
      let s := s.setAssembler .reset
      (if 0 < a.dropped then s.linkError overrunOnly a.dropped else s).takeBody body
    else s

/-! ## The transmitter (R182, R183) -/

/-- R182, R183: the transmitter has sent its message; the place of a reply is freed. -/
def Link.sent (l : Link) : Link :=
  match l.sending with
  | none => l
  | some m => { l with sending := none, replies := if m.reply then l.replies.tail else l.replies }

/-! ## Hardware resets (section 0.7.7, R23, R26, R166, R184) -/

/-- A power-on or pin reset: every block takes its reset values and the pins are sampled; the array keeps what the operation cut leaves,
and two fresh free values are used for it; the model's queue is kept. -/
def State.resetHard (s : State) (pins : Pins) : State :=
  State.hardwareReset pins (s.journal.cutArray s.fresh) (s.fresh + 2) s.pending

/-! ## The tone unit's own timing (R135) -/

/-- R135: a tone reaches its length. ALARM does not end of itself. -/
def toneAfterEnd : Option Playing → Option Playing
  | some p => if p.tone = .alarm then some p else none
  | none => none

/-- The sound of a tone after a number of its steps (section 7.4, R135): ALARM's two pitches, the lower first (log entry 65); ALERT's falling
level; DOUBLE's burst, silence and burst; CHIRP's burst. -/
def soundOf : ToneName → Nat → Option Sound
  | .alarm, n => some { hertz := if n % 2 = 0 then 1600 else 2400, level := 8 }
  | .alert, n => if n < 8 then some { hertz := 2000, level := 8 - n } else none
  | .double, n => if n = 1 then none else some { hertz := 2400, level := 8 }
  | .chirp, _ => some { hertz := 2400, level := 8 }

/-- R135: what the sounder sounds: the sound of the tone playing; silence is `none`. -/
def State.sounder (s : State) : Option Sound := s.tone.bind (fun p => soundOf p.tone p.steps)

/-- The steps of a tone's sound that its progress can count (section 7.4): ALERT falls by eighths, the eighth fall being its end; DOUBLE
goes from burst to silence to burst; ALARM alternates between two pitches; CHIRP has none. -/
def nextStep : ToneName → Nat → Nat
  | .alert, n => min 7 (n + 1)
  | .double, n => min 2 (n + 1)
  | .alarm, n => (n + 1) % 2
  | .chirp, n => n

/-- R135: a tone's sound advances on its own timing. -/
def toneAfterStep : Option Playing → Option Playing
  | some p => some { p with steps := nextStep p.tone p.steps }
  | none => none

/-! ## The points of an excitation period (R68) -/

/-- R68: the negative half begins with its dead time. -/
def Generator.negativeHalf (g : Generator) : Generator := if g.running then { g with phase := .negativeDead } else g

/-- R68: a dead time ends, and the half's drive is applied. -/
def Generator.driveBegins (g : Generator) : Generator :=
  if g.running then
    { g with phase := match g.phase with
        | .positiveDead => .positiveDrive
        | .negativeDead => .negativeDrive
        | p => p }
  else g

/-- R68, R71: at a settle point both channels' conversion requests are raised. -/
def Scale.settlePoint (c : Scale) : Scale :=
  if c.gen.running then { c with conv := ({ c.conv with produce := true, bagging := true } : Converter).grant } else c

/-! ## Short rules of single rows -/

/-- R90: the capture timer reaches 10 s. -/
def State.captureExpires (s : State) : State := s.endCapture .timeout

/-- R147: the head temperature is asked for while the engine is PAUSED_HOT. -/
def State.hotPolls (s : State) : State :=
  match s.engine.state with
  | .pausedHot => s.requestTemperature
  | _ => s

/-- R156, R144: the composer places the next text line, and a line placed may wake the engine. -/
def State.placesLine (s : State) : State :=
  let t := s.composeLine
  if s.composer.queue.length < t.composer.queue.length then t.lineQueued else t

/-- R104, R105: the card decoder works while the part is RUNNING (R112). -/
def State.trackMoves (s : State) (k : Track) (interval : Nat) : State :=
  match s.link.part with
  | .running => s.setCard (s.card.transition k interval)
  | _ => s

/-- R172: the oldest append that can be placed is taken; not before the scan has set the journal's state. -/
def State.takesAppend (s : State) : State :=
  match s.journal.scan with
  | none => s.takeAppend
  | some _ => s

/-- R179: the scan ends while the part is STARTING. -/
def State.scanFinishes (s : State) : State :=
  match s.link.part with
  | .starting => s.scanEnds
  | _ => s

/-- R117: the window timer reaches 30 s. -/
def State.windowRunsOut (s : State) : State :=
  match s.authority.window with
  | some _ => s.windowExpires
  | none => s

/-- R121: the raw level at a pin changes. -/
def State.rawChanges (s : State) (i : SenseInput) (l : Level) : State :=
  s.setSense (s.sense.setPin i ((s.sense.pin i).rawChanges l))

end Sys2Proof.Machine
end

