-- ==== Sys2Proof/Machine/ClusterRows.lean ====
section
/-! DEFINITION. The rows of the cluster bus and of the station's timers (Chapters 2 and 3). -/

namespace Sys2Proof.Machine

/-- R27, R39: the bus is free, and the station offers the frame its state allows. -/
def execBusFree (s : State) : Result := answer (s.setCluster s.cluster.busFree)

/-- R50: an EXPIRE is decoded and, when taken, removes the station it names. -/
def execExpire (sender target : StationNo) (heard : Heard) (s : State) : Result :=
  answer (s.frameEnds { sender := sender, body := .expire target } heard slotsTaken)

/-- R62: a CALL RAISE is decoded and, when taken, creates or changes the sender's entry. -/
def execCallRaise (sender : StationNo) (reasons : Reasons) (heard : Heard) (s : State) : Result :=
  answer (s.frameEnds { sender := sender, body := .callRaise reasons } heard slotsTaken)

/-- R62: a CALL CLEAR is decoded and, when taken, removes the sender's entry. -/
def execCallClear (sender : StationNo) (cause : ClearCause) (heard : Heard) (s : State) : Result :=
  answer (s.frameEnds { sender := sender, body := .callClear cause } heard slotsTaken)

/-- R54: a SHARE CLAIM is decoded, voted on and, when taken, grants. -/
def execShareClaim (sender : StationNo) (c : Consumer) (minimum maximum : Nat) (heard : Heard) (s : State) : Result :=
  answer (s.frameEnds { sender := sender, body := .claim c minimum maximum } heard slotsTaken)

/-- R54: a SHARE TOPUP is decoded, voted on and, when taken, grants. -/
def execShareTopup (sender : StationNo) (c : Consumer) (minimum maximum : Nat) (heard : Heard) (s : State) : Result :=
  answer (s.frameEnds { sender := sender, body := .topup c minimum maximum } heard slotsTaken)

/-- R55: a SHARE RELEASE is decoded and, when taken, lowers the sender's count. -/
def execShareRelease (sender : StationNo) (c : Consumer) (units : Nat) (heard : Heard) (s : State) : Result :=
  answer (s.frameEnds { sender := sender, body := .release c units } heard slotsTaken)

/-- R56, R63: a ROLL is decoded, voted on and, when taken, updates the sender's row and entry. -/
def execRoll (sender : StationNo) (fields : RollFields) (heard : Heard) (s : State) : Result :=
  answer (s.frameEnds { sender := sender, body := .roll fields } heard slotsTaken)

/-- R33: a frame whose response slots give a veto. -/
def execFrameVetoed (frame : Frame) (heard : Heard) (s : State) : Result := answer (s.frameEnds frame heard slotsVetoed)

/-- R33: a frame whose response slots give void; `others` are the slots as the other stations drive them. -/
def execFrameVoid (frame : Frame) (heard : Heard) (others : ResponseSlots) (s : State) : Result := answer (s.frameEnds frame heard others)

/-- R26, R31: a break aborts the frame at every station. -/
def execFrameAborted (ours d sa sb : Bool) (s : State) : Result := answer (s.frameAborts ours { d := d, sa := sa, sb := sb })

/-- R45: the listen timer reaches 1000 ms. -/
def execListenTimer (s : State) : Result := answer (s.listenExpires)

/-- R48: the roll timer reaches 500 ms. -/
def execRollTimer (s : State) : Result := answer (s.setCluster s.cluster.rollExpires)

/-- R49: a silence timer reaches 1500 ms. -/
def execSilenceTimer (station : StationNo) (s : State) : Result := answer (s.setCluster (s.cluster.silenceExpires station))

/-- R52: the retry timer reaches 10 s. -/
def execRetryTimer (s : State) : Result := answer (s.retryExpires)

end Sys2Proof.Machine
end

