-- ==== Sys2Proof/Machine/HostRows.lean ====
section
/-! DEFINITION. The rows of the host's commands (section 11.5): each is the hand-over of its message (log entry 4). -/

namespace Sys2Proof.Machine

/-- R10: OPEN SALE checks the sale state, the identity, the journal level and the drawer, and opens a new record. -/
def execOpenSale (tag : Byte) (reference stamp : BitVec 32) (s : State) : Result := answer (s.arrive tag (.openSale reference stamp))

/-- R11: ADD LINE appends an ITEM line and posts its expectation. -/
def execAddLine (tag : Byte) (f : LineFields) (s : State) : Result := answer (s.arrive tag (.addLine f))

/-- R13: VOID LINE, with authority, voids a line. -/
def execVoidLine (tag : Byte) (index : Nat) (s : State) : Result := answer (s.arrive tag (.voidLine index))

/-- R14: TOTAL ends the entry of lines. -/
def execTotal (tag : Byte) (s : State) : Result := answer (s.arrive tag .total)

/-- R15: TENDER CASH appends a CASH tender. -/
def execTenderCash (tag : Byte) (amount : Nat) (s : State) : Result := answer (s.arrive tag (.tenderCash amount))

/-- R16: TENDER CARD appends a CARD tender and wipes the card buffer. -/
def execTenderCard (tag : Byte) (amount : Nat) (approval : Text) (s : State) : Result :=
  answer (s.arrive tag (.tenderCard amount approval))

/-- R18: VOID SALE, with authority, voids the sale. -/
def execVoidSale (tag : Byte) (s : State) : Result := answer (s.arrive tag .voidSale)

/-- R12, R86: WEIGH ITEM starts a capture. -/
def execWeighItem (tag : Byte) (desc : Text) (price : Nat) (bag : Nat) (s : State) : Result :=
  answer (s.arrive tag (.weighItem desc price bag))

/-- R90: CANCEL WEIGH ends the capture in flight CANCELLED. -/
def execCancelWeigh (tag : Byte) (s : State) : Result := answer (s.arrive tag .cancelWeigh)

/-- R70: RESTART SCALE sets the restart mark. -/
def execRestartScale (tag : Byte) (s : State) : Result := answer (s.arrive tag .restartScale)

/-- R80: SET ZERO takes the present load as zero. -/
def execSetZero (tag : Byte) (s : State) : Result := answer (s.arrive tag .setZero)

/-- R81: SET TARE takes a preset tare or the platter's gross. -/
def execSetTare (tag : Byte) (preset : Option Nat) (s : State) : Result := answer (s.arrive tag (.setTare preset))

/-- R82: CLEAR TARE removes the tare. -/
def execClearTare (tag : Byte) (s : State) : Result := answer (s.arrive tag .clearTare)

/-- R116: DISCARD CARD wipes the held record. -/
def execDiscardCard (tag : Byte) (s : State) : Result := answer (s.arrive tag .discardCard)

/-- R65: RAISE ASSIST adds ASSIST to the own wanted set. -/
def execRaiseAssist (tag : Byte) (s : State) : Result := answer (s.arrive tag .raiseAssist)

/-- R65: WITHDRAW ASSIST removes ASSIST from the own wanted set. -/
def execWithdrawAssist (tag : Byte) (s : State) : Result := answer (s.arrive tag .withdrawAssist)

/-- R131: NO SALE, with authority and an IDLE sale, kicks the drawer and leaves a record of the opening. -/
def execNoSale (tag : Byte) (s : State) : Result := answer (s.arrive tag .noSale)

/-- R132: RETRY DRAWER, with authority, kicks a JAMMED drawer again. -/
def execRetryDrawer (tag : Byte) (s : State) : Result := answer (s.arrive tag .retryDrawer)

/-- R137: PLAY TONE asks for a tone with source HOST. -/
def execPlayTone (tag : Byte) (tone : Nat) (s : State) : Result := answer (s.arrive tag (.playTone tone))

/-- R137: STOP TONE ends the tone playing. -/
def execStopTone (tag : Byte) (s : State) : Result := answer (s.arrive tag .stopTone)

/-- R163: REPRINT LAST starts a COPY RECEIPT job. -/
def execReprintLast (tag : Byte) (s : State) : Result := answer (s.arrive tag .reprintLast)

/-- R168: WRITE IDENTITY writes the identity record into block 0. -/
def execWriteIdentity (tag : Byte) (store : Nat) (label : Text) (s : State) : Result := answer (s.arrive tag (.writeIdentity store label))

/-- R177: READ JOURNAL starts the reads that find a record and return its bytes. -/
def execReadJournal (tag : Byte) (seq : Seq) (offset : Nat) (s : State) : Result := answer (s.arrive tag (.readJournal seq offset))

/-- R178: CONFIRM EXPORT queues or merges a MARK append. -/
def execConfirmExport (tag : Byte) (seq : Seq) (s : State) : Result := answer (s.arrive tag (.confirmExport seq))

/-- R185: CONFIGURE gives each block its values and puts the part in RUNNING. -/
def execConfigure (tag : Byte) (v : ConfigValues) (s : State) : Result := answer (s.arrive tag (.configure v))

/-- R186: READ STATUS answers with a snapshot and clears the LOST mark. -/
def execReadStatus (tag : Byte) (s : State) : Result := answer (s.arrive tag .readStatus)

/-- R187: LANE RESET returns the lane to rest. -/
def execLaneReset (tag : Byte) (s : State) : Result := answer (s.arrive tag .laneReset)

end Sys2Proof.Machine
end

