-- ==== Sys2Proof/Machine/LaneRows.lean ====
section
/-! DEFINITION. The rows of the scale, the capture, the bagging area, the card reader, the switches, the drawer and the tones (Chapters 4 to
7). -/

namespace Sys2Proof.Machine

/-- R68, R70: an excitation period begins. -/
def execPeriodBoundary (s : State) : Result := answer (s.periodBoundary)

/-- R68: the negative half of the period begins with its dead time. -/
def execNegativeHalfStart (s : State) : Result := answer (s.setScale { s.scale with gen := s.scale.gen.negativeHalf })

/-- R68: the dead time ends, and the half's drive is applied. -/
def execDeadTimeEnd (s : State) : Result := answer (s.setScale { s.scale with gen := s.scale.gen.driveBegins })

/-- R68, R71: both channels' conversion requests are raised. -/
def execSettlePoint (s : State) : Result := answer (s.setScale s.scale.settlePoint)

/-- R69: BRIDGE_FAULT goes to FAULT. -/
def execForcedCutoff (s : State) : Result := answer (s.bridgeChanges .fault)

/-- R69: the BRIDGE_FAULT input changes with no effect but its level. -/
def execBridgeFaultToNormal (level : BridgeLevel) (s : State) : Result := answer (s.bridgeChanges level)

/-- R72: a conversion ends, and its result goes to the requester. -/
def execConversionEnd (result : Int) (s : State) : Result := answer (s.conversionEnds result)

/-- R90: the capture timer reaches 10 s. -/
def execCaptureTimer (s : State) : Result := answer (s.captureExpires)

/-- R99: an expectation entry's deadline passes. -/
def execDeadline (line : Nat) (s : State) : Result := answer (s.deadlinePasses line)

/-- R104, R105: a flux transition arrives on a card track. -/
def execTrackTransition (track : Track) (interval : Nat) (s : State) : Result := answer (s.trackMoves track interval)

/-- R104: the swipe-end timer reaches 50 ms. -/
def execSwipeEnd (s : State) : Result := answer (s.setCard s.card.swipeEnds)

/-- R111: decoding ends, and the card record is handled. -/
def execDecodingEnd (s : State) : Result := answer (s.decodingEnds)

/-- R117: the authority window reaches 30 s. -/
def execWindowTimer (s : State) : Result := answer (s.windowRunsOut)

/-- R121: the raw level at a sense input changes. -/
def execRawLevelChange (input : SenseInput) (level : Level) (s : State) : Result := answer (s.rawChanges input level)

/-- R121, R122: a raw level has held for 10 ms, and its watch is judged. -/
def execDebouncedChange (input : SenseInput) (s : State) : Result := answer (s.debounced input)

/-- R126: the drawer claim timer reaches 5 s. -/
def execClaimTimer (s : State) : Result := answer (s.claimExpires)

/-- R127: the pulse timer reaches the kick width. -/
def execPulseTimer (s : State) : Result := answer (s.pulseEnds)

/-- R128: the confirm timer reaches 500 ms. -/
def execConfirmTimer (s : State) : Result := answer (s.confirmExpires)

/-- R128: the gap timer reaches 300 ms. -/
def execRetryGapTimer (s : State) : Result := answer (s.gapExpires)

/-- R130: the open timer reaches 30 s. -/
def execOpenTimerAlarm (s : State) : Result := answer (s.openAlarm)

/-- R130: the open timer reaches 60 s. -/
def execOpenTimerLong (s : State) : Result := answer (s.openLong)

/-- R135: a CHIRP, DOUBLE or ALERT reaches its length. -/
def execToneEnd (s : State) : Result := answer (s.setTone (toneAfterEnd s.tone))

/-- R135: a tone's sound advances on its own timing. -/
def execToneStep (s : State) : Result := answer (s.setTone (toneAfterStep s.tone))

end Sys2Proof.Machine
end

