-- ==== Sys2Proof/Machine/LinkRows.lean ====
section
/-! DEFINITION. The rows of the hardware resets and of the lane link (Chapter 11). -/

namespace Sys2Proof.Machine

/-- R184: power is applied: every block takes its hardware reset values, and the scan begins. -/
def execPowerOnReset (pins : Pins) (s : State) : Result := answer (s.resetHard pins)

/-- R184: the RESET pin resets the part as at power-on. -/
def execPinReset (pins : Pins) (s : State) : Result := answer (s.resetHard pins)

/-- R181, R182: the CHECK character completes a message, which is judged and handed over, held or discarded. -/
def execMessageReceived (check : LinkChar) (s : State) : Result := answer (s.messageCompletes check)

/-- R181: the gap timer reaches 20 ms; the message is discarded with error GAP. -/
def execLinkGapTimer (s : State) : Result := answer (s.gapExpiresInMessage)

/-- R182: a place has freed, and the held message is handed over. -/
def execMessageHandover (s : State) : Result := answer (s.handOverHeld)

/-- R183: the transmitter has sent its message and chooses the next one. -/
def execMessageSent (s : State) : Result := answer (s.setLink s.link.sent)

/-- R180, R181: a character arrives at the receive assembler. -/
def execCharacterReceived (c : LinkChar) (s : State) : Result := answer (s.characterArrives c)

end Sys2Proof.Machine
end

