-- ==== Sys2Proof/Machine/PaperRows.lean ====
section
/-! DEFINITION. The rows of the print engine, the receipt composer and the journal store (Chapters 8 to 10). -/

namespace Sys2Proof.Machine

/-- R140, R142: a pass's strobe width ends. -/
def execPassEnd (s : State) : Result := answer (s.passEnds)

/-- R142: a motor step completes. -/
def execStepEnd (s : State) : Result := answer (s.stepEnds)

/-- R147: every 50 ms in PAUSED_HOT the head temperature is asked for. -/
def execHotPoll (s : State) : Result := answer (s.hotPolls)

/-- R149: the media settle timer reaches 1 s. -/
def execMediaSettle (s : State) : Result := answer (s.mediaSettles)

/-- R152: the cut timer reaches 600 ms. -/
def execCutTimer (s : State) : Result := answer (s.cutExpires)

/-- R156: the composer places the next text line. -/
def execPlaceLine (s : State) : Result := answer (s.placesLine)

/-- R172: the controller takes the append that can be placed. -/
def execTakeAppend (s : State) : Result := answer (s.takesAppend)

/-- R174: erase-ahead starts an erase of its target. -/
def execEraseAheadStart (s : State) : Result := answer (s.startEraseAhead)

/-- R166, R172: a page program and its verify complete. -/
def execProgramDone (verified : Bool) (s : State) : Result := answer (s.programEnds verified)

/-- R166, R174: a block erase and its verify complete. -/
def execEraseDone (verified : Bool) (s : State) : Result := answer (s.eraseEnds verified)

/-- R173: an array read completes. -/
def execReadDone (s : State) : Result := answer (s.readEnds)

/-- R179: the start-up scan ends. -/
def execScanEnd (s : State) : Result := answer (s.scanFinishes)

end Sys2Proof.Machine
end

