-- ==== Sys2Proof/Machine/Dispatch.lean ====
section
/-! DEFINITION. The dispatch of the commands: one arm for each constructor of `Instr`, each one call of its meaning. -/

namespace Sys2Proof.Machine

/-- The effect of a command on everything but the queue. -/
def exec (i : Instr) (s : State) : Host.Outcome State Fault Refusal :=
  match i with
  | .powerOnReset pins => Sys2Proof.Machine.execPowerOnReset pins s
  | .pinReset pins => Sys2Proof.Machine.execPinReset pins s
  | .messageReceived check => Sys2Proof.Machine.execMessageReceived check s
  | .linkGapTimer => Sys2Proof.Machine.execLinkGapTimer s
  | .messageHandover => Sys2Proof.Machine.execMessageHandover s
  | .messageSent => Sys2Proof.Machine.execMessageSent s
  | .openSale tag reference stamp => Sys2Proof.Machine.execOpenSale tag reference stamp s
  | .addLine tag f => Sys2Proof.Machine.execAddLine tag f s
  | .voidLine tag index => Sys2Proof.Machine.execVoidLine tag index s
  | .total tag => Sys2Proof.Machine.execTotal tag s
  | .tenderCash tag amount => Sys2Proof.Machine.execTenderCash tag amount s
  | .tenderCard tag amount approval => Sys2Proof.Machine.execTenderCard tag amount approval s
  | .voidSale tag => Sys2Proof.Machine.execVoidSale tag s
  | .weighItem tag desc price bag => Sys2Proof.Machine.execWeighItem tag desc price bag s
  | .cancelWeigh tag => Sys2Proof.Machine.execCancelWeigh tag s
  | .restartScale tag => Sys2Proof.Machine.execRestartScale tag s
  | .setZero tag => Sys2Proof.Machine.execSetZero tag s
  | .setTare tag preset => Sys2Proof.Machine.execSetTare tag preset s
  | .clearTare tag => Sys2Proof.Machine.execClearTare tag s
  | .discardCard tag => Sys2Proof.Machine.execDiscardCard tag s
  | .raiseAssist tag => Sys2Proof.Machine.execRaiseAssist tag s
  | .withdrawAssist tag => Sys2Proof.Machine.execWithdrawAssist tag s
  | .noSale tag => Sys2Proof.Machine.execNoSale tag s
  | .retryDrawer tag => Sys2Proof.Machine.execRetryDrawer tag s
  | .playTone tag tone => Sys2Proof.Machine.execPlayTone tag tone s
  | .stopTone tag => Sys2Proof.Machine.execStopTone tag s
  | .reprintLast tag => Sys2Proof.Machine.execReprintLast tag s
  | .writeIdentity tag store label => Sys2Proof.Machine.execWriteIdentity tag store label s
  | .readJournal tag seq offset => Sys2Proof.Machine.execReadJournal tag seq offset s
  | .confirmExport tag seq => Sys2Proof.Machine.execConfirmExport tag seq s
  | .configure tag v => Sys2Proof.Machine.execConfigure tag v s
  | .readStatus tag => Sys2Proof.Machine.execReadStatus tag s
  | .laneReset tag => Sys2Proof.Machine.execLaneReset tag s
  | .busFree => Sys2Proof.Machine.execBusFree s
  | .expire sender target heard => Sys2Proof.Machine.execExpire sender target heard s
  | .callRaise sender reasons heard => Sys2Proof.Machine.execCallRaise sender reasons heard s
  | .callClear sender cause heard => Sys2Proof.Machine.execCallClear sender cause heard s
  | .shareClaim sender c minimum maximum heard => Sys2Proof.Machine.execShareClaim sender c minimum maximum heard s
  | .shareTopup sender c minimum maximum heard => Sys2Proof.Machine.execShareTopup sender c minimum maximum heard s
  | .shareRelease sender c units heard => Sys2Proof.Machine.execShareRelease sender c units heard s
  | .roll sender fields heard => Sys2Proof.Machine.execRoll sender fields heard s
  | .frameVetoed frame heard => Sys2Proof.Machine.execFrameVetoed frame heard s
  | .frameVoid frame heard others => Sys2Proof.Machine.execFrameVoid frame heard others s
  | .frameAborted ours d sa sb => Sys2Proof.Machine.execFrameAborted ours d sa sb s
  | .listenTimer => Sys2Proof.Machine.execListenTimer s
  | .rollTimer => Sys2Proof.Machine.execRollTimer s
  | .silenceTimer station => Sys2Proof.Machine.execSilenceTimer station s
  | .retryTimer => Sys2Proof.Machine.execRetryTimer s
  | .periodBoundary => Sys2Proof.Machine.execPeriodBoundary s
  | .negativeHalfStart => Sys2Proof.Machine.execNegativeHalfStart s
  | .deadTimeEnd => Sys2Proof.Machine.execDeadTimeEnd s
  | .settlePoint => Sys2Proof.Machine.execSettlePoint s
  | .forcedCutoff => Sys2Proof.Machine.execForcedCutoff s
  | .conversionEnd result => Sys2Proof.Machine.execConversionEnd result s
  | .captureTimer => Sys2Proof.Machine.execCaptureTimer s
  | .deadline line => Sys2Proof.Machine.execDeadline line s
  | .swipeEnd => Sys2Proof.Machine.execSwipeEnd s
  | .decodingEnd => Sys2Proof.Machine.execDecodingEnd s
  | .windowTimer => Sys2Proof.Machine.execWindowTimer s
  | .debouncedChange input => Sys2Proof.Machine.execDebouncedChange input s
  | .claimTimer => Sys2Proof.Machine.execClaimTimer s
  | .pulseTimer => Sys2Proof.Machine.execPulseTimer s
  | .confirmTimer => Sys2Proof.Machine.execConfirmTimer s
  | .retryGapTimer => Sys2Proof.Machine.execRetryGapTimer s
  | .openTimerAlarm => Sys2Proof.Machine.execOpenTimerAlarm s
  | .openTimerLong => Sys2Proof.Machine.execOpenTimerLong s
  | .toneEnd => Sys2Proof.Machine.execToneEnd s
  | .toneStep => Sys2Proof.Machine.execToneStep s
  | .passEnd => Sys2Proof.Machine.execPassEnd s
  | .stepEnd => Sys2Proof.Machine.execStepEnd s
  | .hotPoll => Sys2Proof.Machine.execHotPoll s
  | .mediaSettle => Sys2Proof.Machine.execMediaSettle s
  | .cutTimer => Sys2Proof.Machine.execCutTimer s
  | .placeLine => Sys2Proof.Machine.execPlaceLine s
  | .takeAppend => Sys2Proof.Machine.execTakeAppend s
  | .eraseAheadStart => Sys2Proof.Machine.execEraseAheadStart s
  | .programDone verified => Sys2Proof.Machine.execProgramDone verified s
  | .eraseDone verified => Sys2Proof.Machine.execEraseDone verified s
  | .readDone => Sys2Proof.Machine.execReadDone s
  | .scanEnd => Sys2Proof.Machine.execScanEnd s
  | .trackTransition track interval => Sys2Proof.Machine.execTrackTransition track interval s
  | .characterReceived c => Sys2Proof.Machine.execCharacterReceived c s
  | .rawLevelChange input level => Sys2Proof.Machine.execRawLevelChange input level s
  | .bridgeFaultToNormal level => Sys2Proof.Machine.execBridgeFaultToNormal level s

end Sys2Proof.Machine
end

