-- ==== Sys2Proof/Machine/Tick.lean ====
section
/-! DEFINITION. One microsecond of the part's time base (log entry 1): every timer that runs goes on by one, and waits one short of its
limit for the command that reports its expiry (log entry 2). -/

namespace Sys2Proof.Machine

/-- A time a microsecond later, below its limit. -/
def later (limit t : Nat) : Nat := if t + 1 < limit then t + 1 else t

/-- A timer a microsecond later. -/
def laterTimer (limit : Nat) (t : Timer) : Timer := t.map (later limit)

/-- R181: the gap timer, towards 20 ms. -/
def Link.tick (l : Link) : Link := { l with assembler := { l.assembler with gap := laterTimer (ms 20) l.assembler.gap } }

/-- R45, R48, R49, R52: the listen, roll, retry and silence timers. -/
def Cluster.tick (c : Cluster) : Cluster :=
  { c with listen := laterTimer (ms 1000) c.listen, rollTimer := laterTimer (ms 500) c.rollTimer,
           retry := laterTimer (sec 10) c.retry,
           silence := c.silence.map (fun x => (x.1, later (ms 1500) x.2)) }

/-- R68: the time since the period boundary, towards P. -/
def Scale.tick (c : Scale) : Scale := { c with gen := { c.gen with timer := laterTimer (ms c.gen.period) c.gen.timer } }

/-- R90: the capture timer, towards 10 s. -/
def Capture.tick (c : Capture) : Capture :=
  { c with flight := c.flight.map (fun r => { r with timer := later (sec 10) r.timer }) }

/-- R99: the age of each expectation, towards its deadline at 15 s. -/
def Bagging.tick (b : Bagging) : Bagging :=
  { b with entries := b.entries.map (fun e => { e with age := later (sec 15) e.age }) }

/-- R104: the swipe-end timer, towards 50 ms. -/
def Card.tick (c : Card) : Card := { c with swipeTimer := laterTimer (ms 50) c.swipeTimer }

/-- R117: the window timer, towards 30 s. -/
def Authority.tick (a : Authority) : Authority := { a with window := laterTimer (sec 30) a.window }

/-- R121: the count of an input, towards 10 ms. -/
def SensePin.tick (p : SensePin) : SensePin := { p with count := laterTimer (ms 10) p.count }

/-- R121: the counts of the eight inputs. -/
def Sense.tick (s : Sense) : Sense :=
  { s with drawer := s.drawer.tick, paper := s.paper.tick, cover := s.cover.tick, nearEnd := s.nearEnd.tick,
           cutterHome := s.cutterHome.tick, key := s.key.tick, spare1 := s.spare1.tick, spare2 := s.spare2.tick }

/-- R130: the open timer runs towards 30 s, and once ALARM has been asked towards 60 s. -/
def Drawer.openLimit (d : Drawer) : Nat := if d.alarmAsked then sec 60 else sec 30

/-- R126 to R130: the drawer's timers. -/
def Drawer.tick (d : Drawer) : Drawer :=
  { d with claimTimer := laterTimer (sec 5) d.claimTimer, pulseTimer := laterTimer (ms d.kickWidth) d.pulseTimer,
           confirmTimer := laterTimer (ms 500) d.confirmTimer, gapTimer := laterTimer (ms 300) d.gapTimer,
           openTimer := laterTimer d.openLimit d.openTimer }

/-- R135: a tone's progress, towards its length; ALARM has none. -/
def Playing.tick (p : Playing) : Playing :=
  { p with elapsed := match p.tone with
      | .alarm => p.elapsed + 1
      | .alert => later (sec 1) p.elapsed
      | .double => later (ms 180) p.elapsed
      | .chirp => later (ms 60) p.elapsed }

/-- R149, R152: the media settle timer and the cut timer. -/
def Engine.tick (e : Engine) : Engine :=
  { e with mediaSettle := laterTimer (sec 1) e.mediaSettle, cutTimer := laterTimer (ms 600) e.cutTimer }

/-- R173: the erasing time of the erase that runs. -/
def Journal.tick (j : Journal) : Journal :=
  match j.arbiter.running with
  | some (.erase e) => { j with arbiter := { j.arbiter with running := some (.erase { e with elapsed := e.elapsed + 1 }) } }
  | _ => j

/-- One microsecond of the part. -/
def State.tick (s : State) : State :=
  { s with link := s.link.tick, cluster := s.cluster.tick, scale := s.scale.tick, capture := s.capture.tick,
           bagging := s.bagging.tick, card := s.card.tick, authority := s.authority.tick, sense := s.sense.tick,
           drawer := s.drawer.tick, tone := s.tone.map Playing.tick, engine := s.engine.tick, journal := s.journal.tick }

end Sys2Proof.Machine
end

