-- ==== Sys2Proof/Safety.lean ====
section
/-! DEFINITION. The vocabulary of the statements: when a command is handed over at once, what it is to turn one away, which row a
command's message is, what settlement, completion, a clear attempt and the entry to LONE leave, and the invariants: the canonical array and the bounds
and sums that the rules keep. -/

namespace Sys2Proof.Machine

/-! ## Handing a command over -/

/-- R182: the assembler holds no message and a reply place is free, so a command is handed over at once. -/
def State.handsOver (s : State) : Prop := s.link.assembler.held = none ∧ s.link.places < replyPlaces

/-- A command that needs the part RUNNING is carried out at once: the part is RUNNING and hands over. -/
def State.takesCommands (s : State) : Prop := s.link.part = .running ∧ s.handsOver

/-- A command is answered REFUSED and nothing else is done (R182). -/
def State.turnsAway (s : State) (i : Instr) (kind tag : Byte) (r : RefusalReason) : Prop :=
  exec i s = .next (s.reply kind tag (.refused r)).finish

/-- The row of a command's message. -/
def rowOf (tag : Byte) : HostCommand → Instr
  | .openSale r t => .openSale tag r t
  | .addLine f => .addLine tag f
  | .voidLine i => .voidLine tag i
  | .total => .total tag
  | .tenderCash a => .tenderCash tag a
  | .tenderCard a t => .tenderCard tag a t
  | .voidSale => .voidSale tag
  | .weighItem d p b => .weighItem tag d p b
  | .cancelWeigh => .cancelWeigh tag
  | .restartScale => .restartScale tag
  | .setZero => .setZero tag
  | .setTare g => .setTare tag g
  | .clearTare => .clearTare tag
  | .discardCard => .discardCard tag
  | .raiseAssist => .raiseAssist tag
  | .withdrawAssist => .withdrawAssist tag
  | .noSale => .noSale tag
  | .retryDrawer => .retryDrawer tag
  | .playTone t => .playTone tag t
  | .stopTone => .stopTone tag
  | .reprintLast => .reprintLast tag
  | .writeIdentity n l => .writeIdentity tag n l
  | .readJournal q o => .readJournal tag q o
  | .confirmExport q => .confirmExport tag q
  | .configure v => .configure tag v
  | .readStatus => .readStatus tag
  | .laneReset => .laneReset tag

/-- Whether a command needs the part RUNNING (section 11.5); the three that do not are READ STATUS, CONFIGURE and WRITE IDENTITY. -/
def needsRunning : HostCommand → Bool
  | .readStatus => false
  | .configure _ => false
  | .writeIdentity _ _ => false
  | _ => true

/-- R168: the identity has been written. -/
def Identity.isWritten (i : Identity) : Prop := ∃ store label, i = .written store label

/-! ## What several statements say -/

/-- R180, R181: the errors seen once a character has arrived with `e` seen before it: its status adds PARITY or FRAMING, and of two faults in
one character it is either (log entry 12). -/
def LinkErrors.sees (e : LinkErrors) (c : LinkChar) (seen : LinkErrors) : Prop :=
  (LinkChar.parityGood c = true → c.stop = true → seen = e) ∧
  (LinkChar.parityGood c = false → c.stop = true → seen = { e with parity := true }) ∧
  (LinkChar.parityGood c = true → c.stop = false → seen = { e with framing := true }) ∧
  (LinkChar.parityGood c = false → c.stop = false → seen = { e with parity := true } ∨ seen = { e with framing := true })

/-- R183: a notice was placed in a step from `s` to `t` and waits at its end, unless the transmitter was free to take it or fewer than 8 places
were left in the queue. -/
def State.places (s t : State) (n : Notice) : Prop :=
  s.link.sending.isSome = true → s.link.notices.length ≤ 24 → n ∈ t.link.notices

/-- R56: the values that a ROLL's drawer and printer counts take in a row at a MEMBER, the drawer count first: one not above the row's is taken, and
a greater one up to what B leaves beside every other count. -/
def Cluster.rollValues (c : Cluster) (row : Row) (r : RollFields) : Nat × Nat :=
  let rest := fun (p d : Nat) => c.budget.getD 0 - ({ c with peers := insertRow { row with printer := p, drawer := d } c.peers } : Cluster).tableSum
  let d := if r.drawer ≤ row.drawer then r.drawer else min r.drawer (rest row.printer 0)
  (if r.printer ≤ row.printer then r.printer else min r.printer (rest 0 d), d)

/-- R61: a ROLL's ticket field moves the counter, as `t` has it, from that of `c`. -/
def Cluster.learns (c : Cluster) (ticket : Option Ticket) (t : Cluster) : Prop :=
  (ticket = none → t.counter = c.counter ∧ t.learned = c.learned) ∧
  (∀ x, ticket = some x →
    (c.learned = false ∨ (1 ≤ (x - (c.counter - 1)).toNat ∧ (x - (c.counter - 1)).toNat ≤ 32767) →
      t.counter = x + 1 ∧ t.learned = true) ∧
    (c.learned = true → ¬ (1 ≤ (x - (c.counter - 1)).toNat ∧ (x - (c.counter - 1)).toNat ≤ 32767) →
      t.counter = c.counter ∧ t.learned = true))

/-- R63: a queue is another with an entry of a ticket put in ticket order, measured back from the newest ticket of a counter; behind an entry of the
same ticket (log entry 42), and ahead of an entry without one. -/
def inTicketOrder (counter : Ticket) (e : CallEntry) (x : Ticket) (before after : List CallEntry) : Prop :=
  ∃ l k, before = l ++ k ∧ after = l ++ e :: k ∧
    (∀ f ∈ l, ∃ u, f.ticket = some u ∧ (counter - 1 - x).toNat ≤ (counter - 1 - u).toNat) ∧
    (∀ f, k.head? = some f → ∀ u, f.ticket = some u → (counter - 1 - u).toNat < (counter - 1 - x).toNat)

/-- R63: a queue is another with an entry at the tail, ahead of the provisional entry of the own station. -/
def atTail (own : StationNo) (e : CallEntry) (before after : List CallEntry) : Prop :=
  let provisional := fun f : CallEntry => f.station == own && f.ticket.isNone
  after = before.filter (fun f => !provisional f) ++ e :: before.filter provisional

/-- R61, R63: what the call fields of a ROLL of station `n` do to the queue and the counter, from `c` to `t`, where no entry of the station is kept:
at a LISTEN or JOINING station, and at a MEMBER that has none of it. -/
def Cluster.rollPlaces (c t : Cluster) (n : StationNo) (r : RollFields) : Prop :=
  let others := c.queue.filter (fun e => e.station != n)
  (∀ x, r.ticket = some x → inTicketOrder t.counter { station := n, ticket := some x, reasons := r.reasons } x others t.queue ∧
    c.learns r.ticket t) ∧
  (r.ticket = none → atTail c.number { station := n, ticket := some c.counter, reasons := r.reasons } others t.queue ∧
    t.counter = c.counter + 1 ∧ t.learned = c.learned)

/-- R179: the committed records of the ring, block by block, as the walks find them. -/
def ringRecords (m : List Host.Cell) : List FoundRecord := ringBlocks.flatMap (fun b => (walkBlock m b).records)

/-- R179: the bytes of a block after its last committed record where the walk finds it open, and 0 where it is closed. -/
def openRest (m : List Host.Cell) (b : Nat) : Nat :=
  match (walkBlock m b).openAt with
  | some a => (b + 1) * blockSize - a
  | none => 0

/-- R17, R18: what settlement does beside the record's own fields: the append is handed over, or reported FAILED in FAULT; the receipt is asked
for, at once from an idle engine; with a CASH tender the drawer is used, and kicked where it takes a kick. -/
def State.settlesTo (s t : State) (isVoid : Bool) (k : JobKind) : Prop :=
  (s.journal.level ≠ .fault → t.sale.commit = .pending ∧ t.journal.queue = s.journal.queue ++ [.sale isVoid]) ∧
  (s.journal.level = .fault → t.sale.commit = .failed ∧ t.journal.queue = s.journal.queue) ∧
  t.sale.print = .running ∧
  (s.engine.state = .idle → t.engine.job = some k ∧ t.engine.state ≠ .idle ∧ t.composer.kind = some k ∧
    t.sale.waitingJob = s.sale.waitingJob) ∧
  (s.engine.state ≠ .idle → t.engine = s.engine ∧ t.sale.waitingJob = some k) ∧
  t.sale.drawerUsed = (s.sale.drawerUsed || t.sale.tenders.any Tender.isCash) ∧
  (t.sale.tenders.any Tender.isCash = true → s.drawer.takesKick = true →
    (t.drawer.state = .claiming ∨ t.drawer.state = .kicking) ∧ t.drawer.retryCount = 0) ∧
  (t.sale.tenders.any Tender.isCash = false ∨ s.drawer.takesKick = false → t.drawer = s.drawer)

/-- R21: the sale has completed: the record is discarded, and its SALE COMPLETE notice was placed with a commit status, a sequence and a print
status. -/
def State.completesTo (s t : State) (commit : CommitStatus) (seq : Option Seq) (print : PrintStatus) : Prop :=
  t.sale = Sale.idle ∧ t.bagging.kept = [] ∧
  s.places t (.saleComplete s.sale.reference s.sale.state s.sale.receipt seq commit print)

/-- R21: all that the completion of the sale asks for, but for the print outcome. -/
def State.awaitsPrint (s : State) : Prop :=
  (s.sale.state = .settled ∨ s.sale.state = .voided) ∧ (s.sale.commit = .committed ∨ s.sale.commit = .failed) ∧
  (s.sale.drawerUsed = false ∨ s.drawer.state = .closed)

/-- R21: all that the completion of the sale asks for, but for the commit verdict. -/
def State.awaitsCommit (s : State) : Prop :=
  (s.sale.state = .settled ∨ s.sale.state = .voided) ∧ (s.sale.print = .done ∨ s.sale.print = .doneUncut) ∧
  (s.sale.drawerUsed = false ∨ s.drawer.state = .closed)

/-- R66, R102, R120: what a clear attempt on the own call does: nothing without a call; a bagging reason needs a stable bagging channel; a CALL
record is handed over with the set and its ticket when one of its two places is free, the set is emptied, and with a bagging reason the
expectations are accepted at the clear weight. The journal may then raise JOURNAL_FULL afresh. -/
def State.clearAttempted (s t : State) (source : AuthSource) (digits : Text) : Prop :=
  let bagging := s.cluster.wanted &&& baggingReasons ≠ 0
  let refused := t.cluster = s.cluster ∧ t.bagging = s.bagging ∧ t.journal = s.journal ∧ t.sale = s.sale
  let cleared :=
    (t.cluster.wanted = 0 ∨ t.cluster.wanted = Reasons.add 0 .journalFull) ∧
    (s.journal.level ≠ .fault →
      t.journal.queue = s.journal.queue ++
        [.call (s.cluster.ownEntry.bind (fun e => e.ticket)) s.cluster.wanted source digits]) ∧
    (s.cluster.state = .member → s.cluster.onBus = none → t.cluster.wanted = 0 →
      ∃ f ∈ t.cluster.out, f.body = .callClear .attendant) ∧
    t.engine = { s.engine with paperOut := false }
  (s.cluster.wanted = 0 → refused ∧ s.places t (.attendant source digits .noCall)) ∧
  (s.cluster.wanted ≠ 0 → ¬ bagging → s.journal.callPlaceFree = true →
    cleared ∧ t.bagging = s.bagging ∧ t.sale = s.sale ∧ s.places t (.attendant source digits .cleared)) ∧
  (bagging → s.scale.bagging.stable = false → refused ∧ s.places t (.attendant source digits .notAccepted)) ∧
  (∀ w, bagging → s.scale.bagging.stable = true → s.scale.bagging.gross = some w → s.journal.callPlaceFree = true →
    cleared ∧ t.bagging = { s.bagging with entries := [], baseline := some w } ∧
    (∀ e ∈ s.bagging.entries, ∀ l, s.sale.lines[e.line]? = some l → t.sale.lines[e.line]? = some { l with bag := .accepted }) ∧
    s.places t (.attendant source digits .cleared)) ∧
  (s.cluster.wanted ≠ 0 → s.journal.callPlaceFree = false →
    (bagging → s.scale.bagging.stable = true ∧ s.scale.bagging.gross.isSome = true) →
    refused ∧ s.places t (.attendant source digits .journalBusy))

/-- R31, R34: the active receiver reads the own frame as it is driven. -/
def State.hearsItself (s : State) (f : Frame) (h : Heard) : Prop :=
  ∀ r, readingsOf h true = some r → (activeReading r s.cluster.mode).differsAt f = none

/-- No frame moves the tables, the queue, the outgoing list or the sale. -/
def State.tablesStand (s t : State) : Prop :=
  t.cluster.peers = s.cluster.peers ∧ t.cluster.queue = s.cluster.queue ∧ t.cluster.out = s.cluster.out ∧
  t.cluster.printer.holding = s.cluster.printer.holding ∧ t.cluster.drawer.holding = s.cluster.drawer.holding ∧ t.sale = s.sale

/-- R51: the station has gone LONE: its peers and its outgoing list are gone, of the queue the own entry stays, and the printer's units are
clipped into what the drawer leaves of 6. -/
def State.goesLone (s t : State) (cause : LoneCause) : Prop :=
  t.cluster.state = .lone ∧ t.cluster.loneCause = some cause ∧ t.cluster.peers = [] ∧ t.cluster.out = [] ∧
  t.cluster.silence = [] ∧ t.cluster.retry = some 0 ∧
  t.cluster.queue = s.cluster.queue.filter (fun e => e.station == s.cluster.number) ∧
  t.cluster.printer.holding = min s.cluster.printer.holding (6 - s.cluster.drawer.holding) ∧
  t.cluster.drawer.holding = s.cluster.drawer.holding

/-- R68, R71, R73: a conversion of requester `w` is in progress in the negative half of a running period, not to be discarded, and its channel's
reading of the positive half was `p`. -/
def State.formsSample (s : State) (w : Requester) (c : Channel) (p : Int) : Prop :=
  s.scale.conv.converting = some w ∧ s.scale.conv.discard = false ∧ s.scale.gen.running = true ∧
  (s.scale.gen.phase = .negativeDead ∨ s.scale.gen.phase = .negativeDrive) ∧ c.positive = some p

/-- R97: the first n entries of the list match a change: their weights sum to it within the sum of their tolerances. -/
def Bagging.prefixMatches (b : Bagging) (delta : Int) (n : Nat) : Prop :=
  1 ≤ n ∧ n ≤ b.entries.length ∧
  (delta - ((b.entries.take n).map (fun e => e.expected)).sum).natAbs ≤ ((b.entries.take n).map (fun e => e.tolerance)).sum

/-! ## Invariants -/

/-- R182: at most 4 places of the reply list are in use, and a READ JOURNAL in progress has its place reserved. -/
def State.repliesWf (s : State) : Prop :=
  s.link.places ≤ replyPlaces ∧ (s.journal.reader.isSome = true → s.link.reserved.isSome = true)

/-- R183: at most 32 notices are queued, the highest priority first. -/
def State.noticesWf (s : State) : Prop :=
  s.link.notices.length ≤ 32 ∧ s.link.notices.Pairwise (fun m n => n.priority ≤ m.priority)

/-- R166: the journal array is in its canonical form, inside its address space. -/
def State.arrayWf (s : State) : Prop := Memory.wf s.journal.array = true

/-- R156: at most 8 text lines are queued. -/
def State.textWf (s : State) : Prop := s.composer.queue.length ≤ 8

/-- The sum of the amounts of the lines whose voided flag is clear (R7). -/
def Sale.standing (s : Sale) : Nat := ((s.lines.filter (fun l => !l.voided)).map (fun l => l.amount)).sum

/-- The sum of the tenders. -/
def Sale.paid (s : Sale) : Nat := (s.tenders.map (fun t => t.amount)).sum

/-- R7: the total is the sum of the amounts of the lines whose voided flag is clear, the due is the total less the tenders, and in
IDLE and OPEN no tenders exist. -/
def State.sumsWf (s : State) : Prop :=
  s.sale.total = s.sale.standing ∧ s.sale.due = s.sale.total - s.sale.paid ∧
  (s.sale.state = .idle ∨ s.sale.state = .opened → s.sale.tenders = [])

/-- R3, R7, R12: lines and total with the reservation's stay within 64 and 99,999,999; a capture in flight holds its reservation, of
its price's worst case, and its sale is OPEN. -/
def State.boundsWf (s : State) : Prop :=
  s.sale.placesUsed ≤ 64 ∧ s.sale.total + s.sale.reserved ≤ 99999999 ∧
  (∀ c, s.capture.flight = some c →
    s.sale.reservation = some (weighedAmount worstGrams c.price) ∧ s.sale.state = .opened)

end Sys2Proof.Machine
end

