-- ==== Sys2Proof/WellFormed.lean ====
section
/-! DEFINITION. Well-formed commands: every operand lies in what its message, frame or event can carry. A value that can be carried and
lies outside its rule's range is well formed: the rule refuses it, or the receiver judges it. -/

namespace Sys2Proof

open Machine

/-- A number that n bytes carry. -/
def fitsBytes (n v : Nat) : Bool := decide (v < 256 ^ n)

/-- A signed number of 24 bits. -/
def fitsInt24 (z : Int) : Bool := decide (-8388608 ≤ z) && decide (z ≤ 8388607)

/-- A text whose length one byte carries. -/
def fitsText (t : Text) : Bool := fitsBytes 1 t.length

/-- The fields of ADD LINE as its payload carries them. -/
def LineFields.wf (f : LineFields) : Bool :=
  fitsText f.desc && fitsBytes 2 f.quantity && fitsBytes 3 f.price &&
  (match f.expected with
   | some (g, t) => fitsBytes 2 g && fitsBytes 2 t
   | none => true)

/-- The values of CONFIGURE as its payload carries them. -/
def ConfigValues.wf (v : ConfigValues) : Bool :=
  fitsBytes 1 v.budget && fitsBytes 1 v.headMax && fitsBytes 1 v.period && fitsInt24 v.produceZero && fitsBytes 2 v.produceSpan &&
  fitsInt24 v.baggingZero && fitsBytes 2 v.baggingSpan && fitsBytes 1 v.kickWidth && fitsBytes 1 v.prefixes.length &&
  v.prefixes.all fitsText && fitsBytes 1 v.headers.length && v.headers.all fitsText && fitsBytes 1 v.decimals

/-- The fields of a command as its payload carries them. -/
def HostCommand.fieldsWf : HostCommand → Bool
  | .addLine f => f.wf
  | .voidLine i => fitsBytes 1 i
  | .tenderCash a => fitsBytes 4 a
  | .tenderCard a t => fitsBytes 4 a && fitsText t
  | .weighItem d p b => fitsText d && fitsBytes 3 p && fitsBytes 1 b
  | .setTare (some g) => fitsBytes 2 g
  | .playTone t => fitsBytes 1 t
  | .writeIdentity n l => fitsBytes 2 n && fitsText l
  | .readJournal _ o => fitsBytes 2 o
  | .configure v => v.wf
  | _ => true

/-- R181: a body of at most 255 bytes. -/
def HostCommand.fitsBody (c : HostCommand) : Bool := decide ((c.body 0).length ≤ 255)

/-- A command that a message can carry. -/
def HostCommand.wf (c : HostCommand) : Bool := c.fieldsWf && c.fitsBody

/-- The most slots of a frame from its start slot to the end of its check field: 93 before stuffing, and an inserted slot after each
second one at most. -/
def mostSlots : Nat := 140

/-- A reading that a receiver can have made of a frame. -/
def Reading.wf : Reading → Bool
  | .asSent => true
  | .slots l => decide (l.length ≤ mostSlots)

/-- What can have been heard of a frame. -/
def Heard.wf : Heard → Bool
  | .missed => true
  | .read d sa sb => d.wf && sa.wf && sb.wf

/-- R29: a frame that a station can send: every payload field in its range. -/
def Frame.wf (f : Frame) : Bool := f.body.inRange

/-- R33: the response slots of other stations that make no frame taken or vetoed. -/
def ResponseSlots.wf (r : ResponseSlots) : Bool := !(r.ack && !r.fault)

/-- The well-formed commands. -/
def Instr.wf : Instr → Bool
  | .addLine _ f => (HostCommand.addLine f).wf
  | .voidLine _ i => (HostCommand.voidLine i).wf
  | .tenderCash _ a => (HostCommand.tenderCash a).wf
  | .tenderCard _ a t => (HostCommand.tenderCard a t).wf
  | .weighItem _ d p b => (HostCommand.weighItem d p b).wf
  | .setTare _ p => (HostCommand.setTare p).wf
  | .playTone _ t => (HostCommand.playTone t).wf
  | .writeIdentity _ n l => (HostCommand.writeIdentity n l).wf
  | .readJournal _ q o => (HostCommand.readJournal q o).wf
  | .configure _ v => (HostCommand.configure v).wf
  | .expire _ _ h => h.wf
  | .callRaise n r h => ({ sender := n, body := .callRaise r } : Frame).wf && h.wf
  | .callClear _ _ h => h.wf
  | .shareClaim n c lo hi h => ({ sender := n, body := .claim c lo hi } : Frame).wf && h.wf
  | .shareTopup n c lo hi h => ({ sender := n, body := .topup c lo hi } : Frame).wf && h.wf
  | .shareRelease n c u h => ({ sender := n, body := .release c u } : Frame).wf && h.wf
  | .roll n f h => ({ sender := n, body := .roll f } : Frame).wf && h.wf
  | .frameVetoed f h => f.wf && h.wf
  | .frameVoid f h r => f.wf && h.wf && (r.wf || h != .read .asSent .asSent .asSent)
  | .conversionEnd z => fitsInt24 z
  | .deadline i => decide (i < 64)
  | .trackTransition _ t => decide (0 < t)
  | _ => true

end Sys2Proof
end

