-- ==== Sys2Proof/Certificates/Slice0/Obligations.lean ====
section
/-! DEFINITION. The statements for the provers. `finish` is the transmitter's choice at the end of a step (R183, log entry 26), which the
statement TransmitterChoosesNext spells out; a next state written as a record with some fields replaced is the whole frame: every field not
named is as it was. -/

open Sys2Proof Sys2Proof.Machine

/-! ## Steps, resets, the queue -/

/-- A step takes the command at the front of the queue and carries it out with the queue's rest; on an empty queue it is one microsecond of the
time base, in which every timer that runs goes on. Queue and microsecond are the model's own (log entry 1). -/
def Obligations.StepTakesFrontCommand : Prop :=
  (∀ (c : Instr) (rest : List Instr) (s : State), s.pending = c :: rest → step s = exec c { s with pending := rest }) ∧
  (∀ s : State, s.pending = [] → step s = .next s.tick)

/-- Every command is answered with a next state, and none touches the queue. -/
def Obligations.EveryCommandKeepsTheQueue : Prop := ∀ (i : Instr) (s : State), ∃ t, exec i s = .next t ∧ t.pending = s.pending

/-- R2, R36, R37, R44, R53, R57, R61, R64, R68, R71, R76, R82, R85, R92, R93, R95, R104, R107, R112, R117, R135, R138, R155, R156, R167, R181 to
R184: the state right after reset holds the values that these rules give, and an empty queue of commands, which is the model's own (log
entry 1). -/
def Obligations.ResetValues : Prop :=
  let s := State.reset
  s.sale = Sale.idle ∧ s.link.part = .starting ∧ s.link.replies = [] ∧ s.link.notices = [] ∧ s.link.lost = false ∧
  s.link.sending = none ∧ s.link.assembler.state = .hunt ∧ s.link.assembler.buffer = [] ∧ s.cluster.state = .off ∧
  s.cluster.mode = .full ∧ s.cluster.failures = [] ∧ s.cluster.peers = [] ∧ s.cluster.printer.holding = 0 ∧
  s.cluster.drawer.holding = 0 ∧ s.cluster.queue = [] ∧ s.cluster.wanted = 0 ∧ s.scale.gen.running = false ∧
  s.scale.gen.restart = false ∧ s.scale.conv.converting = none ∧ s.scale.produce.state = .off ∧ s.scale.bagging.state = .off ∧
  s.scale.produce.tare = none ∧ s.capture.flight = none ∧ s.capture.interlock = false ∧ s.bagging.entries = [] ∧
  s.bagging.baseline = none ∧ s.card.phase = .quiet ∧ s.card.held = none ∧ s.card.prefixes = [] ∧ s.authority.window = none ∧
  s.tone = none ∧ s.engine.state = .idle ∧ s.engine.job = none ∧ s.engine.headTemp = none ∧ s.composer.state = .idle ∧
  s.composer.queue = [] ∧ s.journal.queue = [] ∧ s.journal.taken = none ∧ s.pending = []

/-- A power-on reset and a pin reset act alike: every block takes its reset values, the straps and the pins are sampled, and the array
is kept where no program and no erase is cut. -/
def Obligations.HardwareResetsActAlike : Prop :=
  ∀ (s : State) (pins : Pins),
    exec (.pinReset pins) s = exec (.powerOnReset pins) s ∧
    ∃ t, exec (.powerOnReset pins) s = .next t ∧
      t.link.part = .starting ∧ t.link.straps = pins.straps ∧ t.link.replies = [] ∧ t.link.notices = [] ∧
      t.link.sending = none ∧ t.link.lost = false ∧ t.link.assembler.state = .hunt ∧ t.sale = Sale.idle ∧
      t.cluster.number = pins.straps.station ∧ t.cluster.state = .off ∧ t.scale.gen.bridge = pins.bridge ∧
      t.scale.gen.running = false ∧ t.capture.flight = none ∧ t.bagging.entries = [] ∧ t.card.held = none ∧
      t.authority.window = none ∧ t.tone = none ∧ t.engine.state = .idle ∧ t.composer.queue = [] ∧ t.journal.queue = [] ∧
      t.sense.levels = pins.levels ∧ t.drawer.state = (if pins.levels.drawer = .first then .closed else .opened) ∧
      ((∀ o a b, s.journal.arbiter.running ≠ some (.program o a b)) → (∀ e, s.journal.arbiter.running ≠ some (.erase e)) →
        s.journal.arbiter.suspended = none → t.journal.array = s.journal.array)

/-! ## The lane link (Chapter 11) -/

/-- R181, R182, R188: a good message that names a command is carried out as that command's row when a place is free, and is held while
none is; one whose KIND names no command is refused UNKNOWN, and one without a TAG or of a length that does not fit is refused RANGE. -/
def Obligations.GoodMessageIsHandedOver : Prop :=
  (∀ (s : State) (c : LinkChar) (tag : Byte) (cmd : HostCommand),
    s.link.assembler.held = none → s.link.assembler.state = .check → s.link.assembler.errors = .clear →
    LinkChar.good c = true → c.data = checkByte (s.link.assembler.buffer.drop 1) →
    readBody (s.link.assembler.buffer.drop 1) = .command tag cmd →
    (s.link.places < replyPlaces → exec (.messageReceived c) s = exec (rowOf tag cmd) (s.setAssembler .reset)) ∧
    (replyPlaces ≤ s.link.places →
      exec (.messageReceived c) s = .next (s.setAssembler (s.link.assembler.holding (s.link.assembler.buffer.drop 1))).finish)) ∧
  (∀ (k tag : Byte) (p : List Byte), (k.toNat = 0 ∨ 27 < k.toNat) → readBody (k :: tag :: p) = .refused k tag .unknown) ∧
  (∀ k : Byte, readBody [k] = .refused k 0 .range) ∧
  (∀ (k tag : Byte) (p : List Byte), 1 ≤ k.toNat → k.toNat ≤ 27 → decodePayload k.toNat p = none →
    readBody (k :: tag :: p) = .refused k tag .range) ∧
  (∀ (s : State) (c : LinkChar) (k tag : Byte) (r : RefusalReason),
    s.link.assembler.held = none → s.link.assembler.state = .check → s.link.assembler.errors = .clear →
    LinkChar.good c = true → c.data = checkByte (s.link.assembler.buffer.drop 1) → s.link.places < replyPlaces →
    readBody (s.link.assembler.buffer.drop 1) = .refused k tag r →
    exec (.messageReceived c) s = .next ((s.setAssembler .reset).reply k tag (.refused r)).finish)

/-- R181: a complete message with errors, or with a wrong CHECK byte, and one whose gap timer reaches 20 ms, is discarded with one LINK
ERROR notice, its characters counted with SYNC (log entry 25), and no reply. The gap timer acts at whatever value it stands (log entry 2). -/
def Obligations.BadMessageIsDiscarded : Prop :=
  (∀ (s : State) (g : Nat), s.link.assembler.gap = some g →
    exec .linkGapTimer s =
      .next ((s.setAssembler .reset).notice
        (.linkError { s.link.assembler.errors with gap := true } (s.link.assembler.buffer.length + 1))).finish) ∧
  (∀ (s : State) (c : LinkChar),
    s.link.assembler.held = none → s.link.assembler.state = .check → LinkChar.good c = true →
    (s.link.assembler.errors ≠ .clear →
      exec (.messageReceived c) s =
        .next ((s.setAssembler .reset).notice (.linkError s.link.assembler.errors (s.link.assembler.buffer.length + 2))).finish) ∧
    (s.link.assembler.errors = .clear → c.data ≠ checkByte (s.link.assembler.buffer.drop 1) →
      exec (.messageReceived c) s =
        .next ((s.setAssembler .reset).notice
          (.linkError { LinkErrors.clear with check := true } (s.link.assembler.buffer.length + 2))).finish))

/-- R182: once a place is free the held message leaves the assembler, after one LINK ERROR notice with error OVERRUN when characters were
dropped, and is carried out as its command's row; one that names no command or is of a wrong form is answered REFUSED. With no message held or no
place free nothing is done. -/
def Obligations.HeldMessageIsHandedOver : Prop :=
  (∀ (s : State) (body : List Byte), s.link.assembler.held = some body → s.link.places < replyPlaces →
    let freed := if 0 < s.link.assembler.dropped then
        (s.setAssembler .reset).notice (.linkError { LinkErrors.clear with overrun := true } s.link.assembler.dropped)
      else s.setAssembler .reset
    (∀ (tag : Byte) (cmd : HostCommand), readBody body = .command tag cmd →
      exec .messageHandover s = .next (freed.takeCommand tag cmd).finish ∧
      exec .messageHandover s = exec (rowOf tag cmd) freed) ∧
    (∀ (k tag : Byte) (r : RefusalReason), readBody body = .refused k tag r →
      exec .messageHandover s = .next (freed.reply k tag (.refused r)).finish)) ∧
  (∀ s : State, s.link.assembler.held = none ∨ replyPlaces ≤ s.link.places → exec .messageHandover s = .next s.finish)

/-- R180, R182, R183: a message sent frees its reply's place; a free transmitter takes the oldest formed reply, otherwise the head of the notice
queue, and sends SYNC, LENGTH, body and CHECK as characters of 1 start bit, 8 data bits least significant first, odd parity and 1 stop bit; a busy
one goes on. A notice leaves the queue as it is chosen (log entry 51). -/
def Obligations.TransmitterChoosesNext : Prop :=
  (∀ (s : State) (m : Sending), s.link.sending = some m →
    exec .messageSent s =
      .next ({ s with link := { s.link with sending := none,
                                            replies := if m.reply then s.link.replies.tail else s.link.replies } } : State).finish) ∧
  (∀ (s : State) (m : Sending), s.link.sending = some m → s.finish = s) ∧
  (∀ (s : State) (r : Reply) (rs : List Reply), s.link.sending = none → s.link.replies = r :: rs →
    s.finish = { s with link := { s.link with
      sending := some { chars := (frameMessage r.body').map sentCharacter, reply := true } } }) ∧
  (∀ (s : State) (n : Notice) (ns : List Notice), s.link.sending = none → s.link.replies = [] → s.link.notices = n :: ns →
    s.finish = { s with link := { s.link with
      sending := some { chars := (frameMessage (n.body s.card.held)).map sentCharacter, reply := false }, notices := ns } }) ∧
  (∀ s : State, s.link.sending = none → s.link.replies = [] → s.link.notices = [] → s.finish = s) ∧
  (∀ b : Byte, (sentCharacter b).data = b ∧ (sentCharacter b).stop = true ∧
    (((bitsOf 8 b.toNat).filter id).length + (sentCharacter b).parity.toNat) % 2 = 1 ∧
    (sentCharacter b).bits = false :: ((List.range 8).map b.toNat.testBit ++ [(sentCharacter b).parity, true]) ∧
    LinkChar.good (sentCharacter b) = true)

/-- R181, R182: a character moves the assembler: SYNC begins a message in HUNT and any other character is dropped; LENGTH sets the count, or discards
the message with a LINK ERROR notice of 2 characters, SYNC counted (log entry 25); BODY joins the buffer; in CHECK it completes the message; a bad
status joins the errors; while a message is held it is dropped as OVERRUN. -/
def Obligations.CharacterMovesTheAssembler : Prop :=
  ∀ (s : State) (c : LinkChar),
    (∀ b, s.link.assembler.held = some b →
      exec (.characterReceived c) s =
        .next (s.setAssembler { s.link.assembler with dropped := s.link.assembler.dropped + 1 }).finish) ∧
    (s.link.assembler.held = none →
      (s.link.assembler.state = .hunt → c.data = 0x7E → LinkChar.good c = true →
        exec (.characterReceived c) s =
          .next (s.setAssembler { s.link.assembler with state := .length, buffer := [], due := 0, errors := .clear,
                                                        gap := some 0 }).finish) ∧
      (s.link.assembler.state = .hunt → (c.data ≠ 0x7E ∨ LinkChar.good c = false) →
        exec (.characterReceived c) s = .next s.finish) ∧
      (s.link.assembler.state = .length → c.data = 0 →
        ∃ e, s.link.assembler.errors.sees c e ∧
          exec (.characterReceived c) s = .next ((s.setAssembler .reset).notice (.linkError { e with length := true } 2)).finish) ∧
      (s.link.assembler.state = .length → c.data ≠ 0 →
        ∃ e, s.link.assembler.errors.sees c e ∧
          exec (.characterReceived c) s =
            .next (s.setAssembler { s.link.assembler with state := .body, buffer := [c.data], due := c.data.toNat, errors := e,
                                                          gap := some 0 }).finish) ∧
      (s.link.assembler.state = .body →
        ∃ e, s.link.assembler.errors.sees c e ∧
          exec (.characterReceived c) s =
            .next (s.setAssembler { s.link.assembler with state := if s.link.assembler.due ≤ 1 then .check else .body,
                                                          buffer := s.link.assembler.buffer ++ [c.data],
                                                          due := s.link.assembler.due - 1, errors := e, gap := some 0 }).finish) ∧
      (s.link.assembler.state = .check → exec (.characterReceived c) s = exec (.messageReceived c) s))

/-- R182, R184: in STARTING and UNCONFIGURED a command that needs the part RUNNING is refused NO_CONFIG, and nothing is done. -/
def Obligations.CommandsNeedTheConfiguration : Prop :=
  ∀ (s : State) (tag : Byte) (c : HostCommand),
    s.handsOver → s.link.part ≠ .running → needsRunning c = true → s.turnsAway (rowOf tag c) c.kind tag .noConfig

/-- R186: READ STATUS is answered in every part state with the snapshot, in which the LOST mark stands, and clears the mark. The produce net is gross
less tare in every channel state, and absent while no weight stands (the model's choice, log entry 44). -/
def Obligations.ReadStatusReports : Prop :=
  ∀ (s : State) (tag : Byte), s.handsOver →
    exec (.readStatus tag) s =
      .next (({ s with link := { s.link with lost := false } } : State).reply 0x1A tag (.done (.status s.statusReport))).finish ∧
    s.statusReport.lost = s.link.lost ∧ s.statusReport.part = s.link.part ∧ s.statusReport.saleState = s.sale.state ∧
    s.statusReport.total = s.sale.total ∧ s.statusReport.due = s.sale.due ∧ s.statusReport.wanted = s.cluster.wanted ∧
    s.statusReport.drawer = s.drawer.state ∧ s.statusReport.engine = s.engine.state ∧ s.statusReport.levels = s.sense.levels ∧
    s.statusReport.level = s.journal.level ∧ s.statusReport.mark = s.journal.mark ∧
    s.statusReport.net = s.scale.produce.net.map (fun n => 5 * n) ∧ s.statusReport.tare = s.scale.produce.tare.map (fun n => 5 * n)

/-- R185: CONFIGURE is checked in order and, when every value lies in its range, each block takes its values and the part is
RUNNING. -/
def Obligations.ConfigureStartsTheLane : Prop :=
  ∀ (s : State) (tag : Byte) (v : ConfigValues), s.handsOver →
    (s.link.part = .starting → s.turnsAway (.configure tag v) 0x19 tag .noConfig) ∧
    (s.link.part = .running → s.turnsAway (.configure tag v) 0x19 tag .badState) ∧
    (s.link.part = .unconfigured → configInRange v = false → s.turnsAway (.configure tag v) 0x19 tag .range) ∧
    (s.link.part = .unconfigured → configInRange v = true →
      ∃ t, exec (.configure tag v) s = .next t ∧ t.link.part = .running ∧ t.cluster.budget = some v.budget ∧
        t.cluster.state = .listen ∧ t.cluster.listen = some 0 ∧ t.engine.headMax = v.headMax ∧ t.scale.gen.period = v.period ∧
        t.scale.gen.running = decide (s.scale.gen.bridge = .normal) ∧ t.scale.produce.zeroRef = 16 * v.produceZero ∧
        t.scale.produce.span = v.produceSpan ∧ t.scale.bagging.zeroRef = 16 * v.baggingZero ∧
        t.scale.bagging.span = v.baggingSpan ∧
        t.scale.produce.state = (if s.scale.gen.bridge = .normal then .warmup else .fault) ∧
        t.scale.bagging.state = (if s.scale.gen.bridge = .normal then .warmup else .fault) ∧
        t.drawer.kickWidth = v.kickWidth ∧ (s.drawer.state = .opened → t.drawer.openTimer = some 0) ∧
        t.card.prefixes = v.prefixes ∧ t.composer.headers = v.headers ∧ t.composer.decimals = v.decimals ∧
        t.authority.key = (if s.sense.watchKey.matching then .home else .spent) ∧ t.journal = s.journal ∧
        t.link.replies = s.link.replies ++ [{ kind := 0x19, tag := tag, body := .done .nothing }])

/-- R187: LANE RESET returns the lane to rest, and keeps the configuration, the array, the debounced inputs and the scale zero. -/
def Obligations.LaneResetReturnsToRest : Prop :=
  ∀ (s : State) (tag : Byte), s.takesCommands →
    ∃ t, exec (.laneReset tag) s = .next t ∧ t.sale = Sale.idle ∧ t.capture.flight = none ∧
      t.capture.interlock = s.capture.interlock ∧ t.bagging.entries = [] ∧ t.bagging.baseline = s.bagging.baseline ∧
      t.scale.bagging.baselineWanted = true ∧ t.scale.produce.tare = none ∧
      t.scale.produce.zeroRef = s.scale.produce.zeroRef ∧ t.card.held = none ∧ t.card.prefixes = s.card.prefixes ∧
      t.authority.window = none ∧ t.authority.key = (if s.authority.key = .turned then .spent else s.authority.key) ∧
      t.drawer.state = (if s.sense.watchDrawer.matching then .closed else .opened) ∧ t.drawer.noSale = false ∧
      t.drawer.pulseTimer = none ∧ t.engine.state = .idle ∧ (s.engine.state ≠ .idle → t.composer.queue = []) ∧
      t.tone = none ∧ t.sense = s.sense ∧ t.link.part = .running ∧ t.cluster.budget = s.cluster.budget ∧
      t.journal.array = s.journal.array ∧ t.journal.taken = s.journal.taken ∧
      t.journal.queue = s.journal.queue.filter (fun a => !a.isSale) ∧
      t.link.replies = s.link.replies ++
        [{ kind := 0x1B, tag := tag, body := .done (.laneReset s.sale.state (s.sale.state != .idle) s.capture.flight.isSome
                                                      (s.engine.state != .idle)) }]

/-! ## The sale record (Chapter 1) -/

/-- R10: OPEN SALE, its checks in order and its effect. -/
def Obligations.OpenSaleChecksAndOpens : Prop :=
  ∀ (s : State) (tag : Byte) (reference stamp : BitVec 32), s.takesCommands →
    (s.sale.state ≠ .idle → s.turnsAway (.openSale tag reference stamp) 0x01 tag .badState) ∧
    (s.sale.state = .idle →
      (¬ s.journal.identity.isWritten → s.turnsAway (.openSale tag reference stamp) 0x01 tag .noIdentity) ∧
      (s.journal.identity.isWritten →
        (s.journal.level = .fault → s.turnsAway (.openSale tag reference stamp) 0x01 tag .journalFault) ∧
        (s.journal.level = .full → s.turnsAway (.openSale tag reference stamp) 0x01 tag .journalFull) ∧
        (s.journal.level ≠ .fault → s.journal.level ≠ .full →
          (s.drawer.state ≠ .closed → s.turnsAway (.openSale tag reference stamp) 0x01 tag .drawerOpen) ∧
          (s.drawer.state = .closed →
            exec (.openSale tag reference stamp) s =
              .next (({ s with sale := { Sale.idle with state := .opened, reference := reference, stamp := stamp } } : State).reply
                0x01 tag (.done (.sale { state := .opened, total := 0, due := 0, change := none }))).finish))))

/-- R11: ADD LINE, its checks in order, the line it appends, and the expectation it posts. -/
def Obligations.AddLineChecksAndAppends : Prop :=
  ∀ (s : State) (tag : Byte) (f : LineFields), s.takesCommands →
    let posted := f.expected.isSome = true ∧ f.noBag = false
    let amount := f.quantity * f.price
    let line : Line := { kind := .item f.quantity, desc := f.desc, price := f.price, amount := amount, voided := false,
                         bag := if f.expected.isSome = true ∧ f.noBag = false then .pending else .skipped,
                         expected := f.expected }
    let sale : Sale := { s.sale with lines := s.sale.lines ++ [line], total := s.sale.total + amount,
                                     due := s.sale.total + amount - s.sale.paid }
    let report : SaleReport := { state := .opened, total := sale.total, due := sale.due, change := none }
    (s.sale.state ≠ .opened → s.turnsAway (.addLine tag f) 0x02 tag .badState) ∧
    (s.sale.state = .opened →
      (s.held = true → s.turnsAway (.addLine tag f) 0x02 tag .held) ∧
      (s.held = false →
        (lineFieldsInRange f = false → s.turnsAway (.addLine tag f) 0x02 tag .range) ∧
        (lineFieldsInRange f = true →
          (9999999 < amount → s.turnsAway (.addLine tag f) 0x02 tag .range) ∧
          (amount ≤ 9999999 →
            (99999999 < s.sale.total + s.sale.reserved + amount → s.turnsAway (.addLine tag f) 0x02 tag .range) ∧
            (s.sale.total + s.sale.reserved + amount ≤ 99999999 →
              (64 ≤ s.sale.placesUsed → s.turnsAway (.addLine tag f) 0x02 tag .full) ∧
              (s.sale.placesUsed < 64 →
                (posted → 4 ≤ s.bagging.entries.length → s.turnsAway (.addLine tag f) 0x02 tag .full) ∧
                (¬ posted →
                  exec (.addLine tag f) s =
                    .next (({ s with sale := sale } : State).reply 0x02 tag
                      (.done (.line report s.sale.lines.length amount))).finish) ∧
                (posted → s.bagging.entries.length < 4 →
                  ∀ g w, f.expected = some (g, w) →
                    exec (.addLine tag f) s =
                      .next (({ s with
                        sale := sale,
                        bagging := { s.bagging with
                          entries := s.bagging.entries ++ [{ line := s.sale.lines.length, removal := false,
                                                             expected := gramsToDivisions g 10,
                                                             tolerance := gramsToDivisions w 10, age := 0, overdue := false }],
                          kept := s.bagging.kept ++ [{ line := s.sale.lines.length, expected := gramsToDivisions g 10,
                                                       tolerance := gramsToDivisions w 10 }] } } : State).reply 0x02 tag
                        (.done (.line report s.sale.lines.length amount))).finish)))))))

/-- R13: VOID LINE, its checks in order, and its effect on the line, the total and the expectation list. -/
def Obligations.VoidLineChecksAndVoids : Prop :=
  ∀ (s : State) (tag : Byte) (i : Nat), s.takesCommands →
    (s.sale.state ≠ .opened → s.turnsAway (.voidLine tag i) 0x03 tag .badState) ∧
    (s.sale.state = .opened →
      (s.authority.present = false → s.turnsAway (.voidLine tag i) 0x03 tag .noAuthority) ∧
      (s.authority.present = true →
        (s.sale.lines[i]? = none → s.turnsAway (.voidLine tag i) 0x03 tag .range) ∧
        (∀ l, s.sale.lines[i]? = some l →
          (l.voided = true → s.turnsAway (.voidLine tag i) 0x03 tag .badState) ∧
          (l.voided = false → l.bag = .bagged → 4 ≤ s.bagging.entries.length →
            s.turnsAway (.voidLine tag i) 0x03 tag .full) ∧
          (l.voided = false → (l.bag = .bagged → s.bagging.entries.length < 4) →
            ∃ t, exec (.voidLine tag i) s = .next t ∧
              t.sale.lines[i]? = some { l with voided := true,
                                               bag := match l.bag with
                                                 | .pending => .skipped
                                                 | .bagged => .removalPending
                                                 | b => b } ∧
              (∀ j, j ≠ i → t.sale.lines[j]? = s.sale.lines[j]?) ∧ t.sale.total = s.sale.total - l.amount ∧
              t.sale.state = .opened ∧ t.sale.tenders = s.sale.tenders ∧ t.sale.reservation = s.sale.reservation ∧
              t.capture = s.capture ∧
              (l.bag = .pending → t.bagging.entries = s.bagging.entries.filter (fun e => e.line != i)) ∧
              (l.bag = .bagged → ∀ k, s.bagging.keptOf i = some k →
                t.bagging.entries = s.bagging.entries ++ [{ line := i, removal := true, expected := -k.expected,
                                                            tolerance := k.tolerance, age := 0, overdue := false }]) ∧
              (l.bag ≠ .pending → l.bag ≠ .bagged → t.bagging = s.bagging ∧ t.cluster = s.cluster) ∧
              t.link.replies = s.link.replies ++
                [{ kind := 0x03, tag := tag, body := .done (.sale { state := .opened, total := s.sale.total - l.amount,
                                                                    due := s.sale.total - l.amount - s.sale.paid,
                                                                    change := none }) }] ∧
              t.journal = s.journal ∧ t.engine = s.engine ∧ t.composer = s.composer ∧ t.drawer = s.drawer ∧ t.card = s.card ∧
              t.scale = s.scale ∧ t.authority = s.authority ∧ t.sense = s.sense ∧ t.tone = s.tone))))

/-- R14, R17: TOTAL, its checks in order; a capture in flight ends VOIDED with its notice, and the sale is in TENDER, or SETTLED and settled when the
total is 0. -/
def Obligations.TotalEndsTheLines : Prop :=
  ∀ (s : State) (tag : Byte), s.takesCommands →
    (s.sale.state ≠ .opened → s.turnsAway (.total tag) 0x04 tag .badState) ∧
    (s.sale.state = .opened → s.bagging.entries ≠ [] → s.turnsAway (.total tag) 0x04 tag .bagPending) ∧
    (s.sale.state = .opened → s.bagging.entries = [] → s.cluster.ownReasons &&& baggingReasons ≠ 0 →
      s.turnsAway (.total tag) 0x04 tag .bagPending) ∧
    (s.sale.state = .opened → s.bagging.entries = [] → s.cluster.ownReasons &&& baggingReasons = 0 → s.journal.level = .full →
      s.turnsAway (.total tag) 0x04 tag .journalFull) ∧
    (s.sale.state = .opened → s.bagging.entries = [] → s.cluster.ownReasons &&& baggingReasons = 0 → s.journal.level ≠ .full →
      (0 < s.sale.total →
        let report : SaleReport := { state := .tender, total := s.sale.total, due := s.sale.total, change := none }
        (s.capture.flight = none →
          exec (.total tag) s =
            .next (({ s with sale := { s.sale with state := .tender, due := s.sale.total } } : State).reply 0x04 tag
              (.done (.sale report))).finish) ∧
        (∀ c, s.capture.flight = some c →
          exec (.total tag) s =
            .next ((({ s with
              capture := { s.capture with flight := none },
              sale := { s.sale with state := .tender, due := s.sale.total, reservation := none } } : State).notice
                (.capture .voided none s.sale.total)).reply 0x04 tag (.done (.sale report))).finish)) ∧
      (s.sale.total = 0 → s.sale.tenders = [] →
        ∃ t, exec (.total tag) s = .next t ∧ t.sale.state = .settled ∧ t.sale.change = 0 ∧ t.sale.lines = s.sale.lines ∧
          s.settlesTo t false .sale ∧ t.capture.flight = none ∧
          (s.capture.flight.isSome = true → s.places t (.capture .voided none 0))))

/-- R15, R17: TENDER CASH, its checks in order; taken, a CASH entry joins the list; the sale stays in TENDER while a due is left, and settles at 0:
the change, the append, the receipt and the kick. -/
def Obligations.TenderCashTakesTheAmount : Prop :=
  ∀ (s : State) (tag : Byte) (a : Nat), s.takesCommands →
    (s.sale.state ≠ .tender → s.turnsAway (.tenderCash tag a) 0x05 tag .badState) ∧
    (s.sale.state = .tender →
      (4 ≤ s.sale.tenders.length → s.turnsAway (.tenderCash tag a) 0x05 tag .full) ∧
      (s.sale.tenders.length < 4 →
        ((a < 1 ∨ 99999999 < a) → s.turnsAway (.tenderCash tag a) 0x05 tag .range) ∧
        (1 ≤ a → a ≤ 99999999 →
          (s.sale.paid + a < s.sale.total →
            exec (.tenderCash tag a) s =
              .next (({ s with sale := { s.sale with tenders := s.sale.tenders ++ [{ kind := .cash, amount := a }],
                                                     due := s.sale.total - (s.sale.paid + a) } } : State).reply 0x05 tag
                (.done (.sale { state := .tender, total := s.sale.total, due := s.sale.total - (s.sale.paid + a),
                                change := none }))).finish) ∧
          (s.sale.total ≤ s.sale.paid + a →
            ∃ t, exec (.tenderCash tag a) s = .next t ∧ t.sale.state = .settled ∧
              t.sale.tenders = s.sale.tenders ++ [{ kind := .cash, amount := a }] ∧ t.sale.due = 0 ∧
              t.sale.change = s.sale.paid + a - s.sale.total ∧ t.sale.drawerUsed = true ∧ s.settlesTo t false .sale ∧
              t.sale.lines = s.sale.lines ∧ t.sale.total = s.sale.total ∧
              t.link.replies = s.link.replies ++
                [{ kind := 0x05, tag := tag, body := .done (.sale { state := .settled, total := s.sale.total, due := 0,
                                                                    change := some (s.sale.paid + a - s.sale.total) }) }]))))

/-- R16, R17: TENDER CARD, its checks in order; taken, a CARD entry with the masked account number joins the list and the card buffer is
wiped; at a due of 0 the sale settles. -/
def Obligations.TenderCardTakesTheCard : Prop :=
  ∀ (s : State) (tag : Byte) (a : Nat) (approval : Text), s.takesCommands →
    (s.sale.state ≠ .tender → s.turnsAway (.tenderCard tag a approval) 0x06 tag .badState) ∧
    (s.sale.state = .tender → 4 ≤ s.sale.tenders.length → s.turnsAway (.tenderCard tag a approval) 0x06 tag .full) ∧
    (s.sale.state = .tender → s.sale.tenders.length < 4 →
      (s.card.held = none → s.turnsAway (.tenderCard tag a approval) 0x06 tag .noCard) ∧
      (∀ r, s.card.held = some r →
        (r.account = none → s.turnsAway (.tenderCard tag a approval) 0x06 tag .noCard) ∧
        (∀ account, r.account = some account →
          ((a < 1 ∨ s.sale.due < a ∨ textIn 1 8 approval = false) → s.turnsAway (.tenderCard tag a approval) 0x06 tag .range) ∧
          (1 ≤ a → a ≤ s.sale.due → textIn 1 8 approval = true →
            (s.sale.paid + a < s.sale.total →
              exec (.tenderCard tag a approval) s =
                .next (({ s with
                  card := { s.card with held := none },
                  sale := { s.sale with
                    tenders := s.sale.tenders ++ [{ kind := .card (maskAccount account) approval, amount := a }],
                    due := s.sale.total - (s.sale.paid + a) } } : State).reply 0x06 tag
                  (.done (.card { state := .tender, total := s.sale.total, due := s.sale.total - (s.sale.paid + a),
                                  change := none } r.overrun))).finish) ∧
            (s.sale.total ≤ s.sale.paid + a →
              ∃ t, exec (.tenderCard tag a approval) s = .next t ∧ t.sale.state = .settled ∧ t.sale.due = 0 ∧
                t.sale.tenders = s.sale.tenders ++ [{ kind := .card (maskAccount account) approval, amount := a }] ∧
                t.sale.change = s.sale.paid + a - s.sale.total ∧ s.settlesTo t false .sale ∧ t.card.held = none ∧
                t.link.replies = s.link.replies ++
                  [{ kind := 0x06, tag := tag,
                     body := .done (.card { state := .settled, total := s.sale.total, due := 0,
                                            change := some (s.sale.paid + a - s.sale.total) } r.overrun) }])))))

/-- R18: VOID SALE, its checks in order; taken, the sale is VOIDED and settled as such, and the capture, with its VOIDED notice, the expectation list
and the held card are gone. -/
def Obligations.VoidSaleVoidsTheSale : Prop :=
  ∀ (s : State) (tag : Byte), s.takesCommands →
    (s.sale.state ≠ .opened → s.sale.state ≠ .tender → s.turnsAway (.voidSale tag) 0x07 tag .badState) ∧
    (s.sale.state = .opened ∨ s.sale.state = .tender →
      (s.authority.present = false → s.turnsAway (.voidSale tag) 0x07 tag .noAuthority) ∧
      (s.authority.present = true → s.sale.tenders.any Tender.isCard = true → s.turnsAway (.voidSale tag) 0x07 tag .tendered) ∧
      (s.authority.present = true → s.sale.tenders.any Tender.isCard = false →
        ∃ t, exec (.voidSale tag) s = .next t ∧ t.sale.state = .voided ∧ t.sale.lines = s.sale.lines ∧
          t.sale.tenders = s.sale.tenders ∧ t.sale.change = s.sale.change ∧ s.settlesTo t true .voidSale ∧
          (s.sale.tenders ≠ [] → t.sale.drawerUsed = true) ∧ t.capture.flight = none ∧ t.bagging.entries = [] ∧
          t.card.held = none ∧ (s.capture.flight.isSome = true → s.places t (.capture .voided none s.sale.total)) ∧
          t.link.replies = s.link.replies ++
            [{ kind := 0x07, tag := tag,
               body := .done (.sale { state := .voided, total := s.sale.total, due := s.sale.due, change := none }) }]))

/-! ## Weighing (Chapters 4 and 5) -/

/-- R12, R86: WEIGH ITEM, its checks in order; taken, a capture in WAIT_ZERO or WAIT_STABLE with its worst-case reservation; with the produce
channel in FAULT it ends at once. The bag flag is 0 or 1 (section 12.1), and a byte above 1 is refused RANGE (log entry 39). -/
def Obligations.WeighItemStartsACapture : Prop :=
  ∀ (s : State) (tag : Byte) (desc : Text) (price bag : Nat), s.takesCommands →
    let phase := if s.capture.interlock then CapturePhase.waitZero else CapturePhase.waitStable
    let worst := (15045 * price + 500) / 1000
    (s.sale.state ≠ .opened → s.turnsAway (.weighItem tag desc price bag) 0x08 tag .badState) ∧
    (s.sale.state = .opened →
      (s.held = true → s.turnsAway (.weighItem tag desc price bag) 0x08 tag .held) ∧
      (s.held = false →
        (∀ c, s.capture.flight = some c → s.turnsAway (.weighItem tag desc price bag) 0x08 tag .busy) ∧
        (s.capture.flight = none →
          ((textIn 1 24 desc = false ∨ 999999 < price ∨ 1 < bag ∨ 9999999 < worst ∨ 99999999 < s.sale.total + worst) →
            s.turnsAway (.weighItem tag desc price bag) 0x08 tag .range) ∧
          (textIn 1 24 desc = true → price ≤ 999999 → bag ≤ 1 → worst ≤ 9999999 → s.sale.total + worst ≤ 99999999 →
            (64 ≤ s.sale.lines.length → s.turnsAway (.weighItem tag desc price bag) 0x08 tag .full) ∧
            (s.sale.lines.length < 64 →
              (s.scale.produce.state ≠ .fault →
                exec (.weighItem tag desc price bag) s =
                  .next (({ s with
                    capture := { s.capture with
                      flight := some { phase := phase, desc := desc, price := price, bag := bag == 1, timer := 0 } },
                    sale := { s.sale with reservation := some worst } } : State).reply 0x08 tag
                    (.accepted (.capture phase))).finish) ∧
              (s.scale.produce.state = .fault →
                exec (.weighItem tag desc price bag) s =
                  .next ((({ s with
                    capture := { s.capture with flight := none },
                    sale := { s.sale with reservation := none } } : State).notice
                      (.capture .fault none s.sale.total)).reply 0x08 tag (.accepted (.capture phase))).finish))))))

/-- R90: CANCEL WEIGH and the capture timer end a capture in flight, with no line and one CAPTURE notice; with none in flight CANCEL
WEIGH is refused. The timer acts at whatever value it stands (log entry 2). -/
def Obligations.CaptureEndsWithoutALine : Prop :=
  (∀ (s : State) (tag : Byte), s.takesCommands → s.capture.flight = none → s.turnsAway (.cancelWeigh tag) 0x09 tag .badState) ∧
  (∀ (s : State) (tag : Byte) (c : CaptureRec), s.takesCommands → s.capture.flight = some c →
    exec (.cancelWeigh tag) s =
      .next ((({ s with capture := { s.capture with flight := none }, sale := { s.sale with reservation := none } } : State).notice
        (.capture .cancelled none s.sale.total)).reply 0x09 tag (.done .nothing)).finish) ∧
  (∀ (s : State) (c : CaptureRec), s.capture.flight = some c →
    exec .captureTimer s =
      .next (({ s with capture := { s.capture with flight := none }, sale := { s.sale with reservation := none } } : State).notice
        (.capture .timeout none s.sale.total)).finish)

/-- R70: RESTART SCALE sets the restart mark when BRIDGE_FAULT stands at NORMAL; at the next period boundary the generator runs and
both channels are in WARMUP with empty histories, and SCALE_FAULT is withdrawn. -/
def Obligations.RestartScaleRestarts : Prop :=
  (∀ (s : State) (tag : Byte), s.takesCommands → s.scale.gen.bridge = .fault →
    s.turnsAway (.restartScale tag) 0x0A tag .badState) ∧
  (∀ (s : State) (tag : Byte), s.takesCommands → s.scale.gen.bridge = .normal →
    exec (.restartScale tag) s =
      .next (({ s with scale := { s.scale with gen := { s.scale.gen with restart := true } } } : State).reply 0x0A tag
        (.done .nothing)).finish) ∧
  (∀ (s : State) (u : Nat), s.scale.gen.timer = some u → s.scale.gen.restart = true →
    ∃ t, exec .periodBoundary s = .next t ∧ t.scale.gen.restart = false ∧ t.scale.gen.running = true ∧
      t.scale.gen.timer = some 0 ∧ t.scale.produce.state = .warmup ∧ t.scale.bagging.state = .warmup ∧
      t.scale.produce.samples = [] ∧ t.scale.bagging.samples = [] ∧ t.scale.produce.weights = [] ∧ t.scale.bagging.weights = [] ∧
      t.scale.produce.zeroRef = s.scale.produce.zeroRef ∧ t.scale.produce.initialZero = s.scale.produce.initialZero ∧
      t.scale.produce.tare = s.scale.produce.tare ∧ t.cluster.wanted = s.cluster.wanted.remove .scaleFault ∧
      t.sale = s.sale ∧ t.capture = s.capture ∧ t.bagging = s.bagging ∧ t.journal = s.journal)

/-- R80: SET ZERO, its checks in order; taken, the zero reference is the filtered value, the tare is none, the weight history is empty and the
channel is moving; the initial zero stays. -/
def Obligations.SetZeroTakesTheLoad : Prop :=
  ∀ (s : State) (tag : Byte), s.handsOver →
    (s.link.part ≠ .running → s.turnsAway (.setZero tag) 0x0B tag .noConfig) ∧
    (s.link.part = .running →
      (∀ c, s.capture.flight = some c → s.turnsAway (.setZero tag) 0x0B tag .busy) ∧
      (s.capture.flight = none →
        (s.scale.produce.state ≠ .ready → s.turnsAway (.setZero tag) 0x0B tag .badState) ∧
        (s.scale.produce.state = .ready →
          (s.scale.produce.stable = false → s.turnsAway (.setZero tag) 0x0B tag .busy) ∧
          (s.scale.produce.stable = true → ∀ f z, s.scale.produce.filtered = some f → s.scale.produce.initialZero = some z →
            ((s.scale.produce.weightFrom f z < -60 ∨ 60 < s.scale.produce.weightFrom f z) →
              s.turnsAway (.setZero tag) 0x0B tag .range) ∧
            (-60 ≤ s.scale.produce.weightFrom f z → s.scale.produce.weightFrom f z ≤ 60 →
              ∃ t, exec (.setZero tag) s = .next t ∧ t.scale.produce.zeroRef = f ∧ t.scale.produce.tare = none ∧
                t.scale.produce.weights = [] ∧ t.scale.produce.stable = false ∧ t.scale.produce.initialZero = some z ∧
                t.scale.produce.state = .ready ∧ t.scale.produce.samples = s.scale.produce.samples ∧
                t.scale.bagging = s.scale.bagging ∧ t.scale.gen = s.scale.gen ∧ t.scale.conv = s.scale.conv ∧ t.sale = s.sale ∧
                t.capture = s.capture ∧ t.bagging = s.bagging ∧ t.cluster = s.cluster ∧ t.journal = s.journal ∧
                t.link.replies = s.link.replies ++ [{ kind := 0x0B, tag := tag, body := .done (.gross 0) }])))))

/-- R81, R82: SET TARE, its checks in order; it takes a preset weight rounded to divisions, or the stable gross of the platter. CLEAR TARE removes the
tare, and the net is the gross. Both are BUSY while a capture is in flight. -/
def Obligations.TareIsSetAndCleared : Prop :=
  (∀ (s : State) (tag : Byte) (g : Nat), s.takesCommands → s.capture.flight = none →
    (s.scale.produce.state ≠ .ready → s.scale.produce.state ≠ .overload → s.scale.produce.state ≠ .underload →
      s.turnsAway (.setTare tag (some g)) 0x0C tag .badState) ∧
    ((s.scale.produce.state = .ready ∨ s.scale.produce.state = .overload ∨ s.scale.produce.state = .underload) →
      ((g < 1 ∨ 15000 < g ∨ gramsToDivisions g 5 < 1) → s.turnsAway (.setTare tag (some g)) 0x0C tag .range) ∧
      (1 ≤ g → g ≤ 15000 → 1 ≤ gramsToDivisions g 5 →
        ∃ t, exec (.setTare tag (some g)) s = .next t ∧ t.scale.produce.tare = some (gramsToDivisions g 5) ∧
          t.scale.produce.zeroRef = s.scale.produce.zeroRef ∧ t.scale.bagging = s.scale.bagging ∧ t.sale = s.sale ∧
          t.capture = s.capture ∧ t.cluster = s.cluster ∧ t.journal = s.journal ∧
          (∀ gross, s.scale.produce.gross = some gross →
            t.link.replies = s.link.replies ++
              [{ kind := 0x0C, tag := tag,
                 body := .done (.tare (gramsToDivisions g 5 * 5) ((gross - (gramsToDivisions g 5 : Int)) * 5)) }])))) ∧
  (∀ (s : State) (tag : Byte), s.takesCommands → s.capture.flight = none →
    (s.scale.produce.state ≠ .ready → s.turnsAway (.setTare tag none) 0x0C tag .badState) ∧
    (s.scale.produce.state = .ready →
      (s.scale.produce.stable = false → s.turnsAway (.setTare tag none) 0x0C tag .busy) ∧
      (s.scale.produce.stable = true → ∀ gross : Int, s.scale.produce.gross = some gross →
        ((gross ≤ 0 ∨ 3000 < gross) → s.turnsAway (.setTare tag none) 0x0C tag .range) ∧
        (0 < gross → gross ≤ 3000 →
          ∃ t, exec (.setTare tag none) s = .next t ∧ t.scale.produce.tare = some gross.toNat ∧
            t.scale.produce.zeroRef = s.scale.produce.zeroRef ∧ t.scale.bagging = s.scale.bagging ∧ t.sale = s.sale ∧
            t.capture = s.capture ∧ t.cluster = s.cluster ∧ t.journal = s.journal ∧
            t.link.replies = s.link.replies ++
              [{ kind := 0x0C, tag := tag, body := .done (.tare (gross.toNat * 5) 0) }])))) ∧
  (∀ (s : State) (tag : Byte), s.takesCommands → s.capture.flight = none →
    ∃ t, exec (.clearTare tag) s = .next t ∧ t.scale.produce.tare = none ∧ t.scale.produce.net = s.scale.produce.gross ∧
      t.scale.produce.zeroRef = s.scale.produce.zeroRef ∧ t.scale.bagging = s.scale.bagging ∧ t.sale = s.sale ∧
      t.capture = s.capture ∧ t.cluster = s.cluster ∧ t.journal = s.journal) ∧
  (∀ (s : State) (tag : Byte) (c : CaptureRec) (p : Option Nat), s.takesCommands → s.capture.flight = some c →
    s.turnsAway (.setTare tag p) 0x0C tag .busy ∧ s.turnsAway (.clearTare tag) 0x0D tag .busy)

/-- R68, R71: while the generator runs a period begins afresh, its negative half begins with a dead time, a dead time ends in the half's
drive, and at a settle point both channels' requests are raised, the produce channel's granted first. -/
def Obligations.PeriodRunsThroughItsPoints : Prop :=
  ∀ (s : State) (u : Nat), s.scale.gen.running = true → s.scale.gen.timer = some u →
    (s.scale.gen.restart = false →
      exec .periodBoundary s =
        .next ({ s with scale := { s.scale with gen := { s.scale.gen with phase := .positiveDead, timer := some 0 },
                                                produce := { s.scale.produce with positive := none },
                                                bagging := { s.scale.bagging with positive := none } } } : State).finish) ∧
    exec .negativeHalfStart s =
      .next ({ s with scale := { s.scale with gen := { s.scale.gen with phase := .negativeDead } } } : State).finish ∧
    (s.scale.gen.phase = .positiveDead →
      exec .deadTimeEnd s =
        .next ({ s with scale := { s.scale with gen := { s.scale.gen with phase := .positiveDrive } } } : State).finish) ∧
    (s.scale.gen.phase = .negativeDead →
      exec .deadTimeEnd s =
        .next ({ s with scale := { s.scale with gen := { s.scale.gen with phase := .negativeDrive } } } : State).finish) ∧
    (s.scale.conv.converting = none →
      exec .settlePoint s =
        .next ({ s with scale := { s.scale with
          conv := { s.scale.conv with produce := false, bagging := true, converting := some .produce,
                                      discard := false } } } : State).finish) ∧
    (∀ w, s.scale.conv.converting = some w →
      exec .settlePoint s =
        .next ({ s with scale := { s.scale with conv := { s.scale.conv with produce := true, bagging := true } } } : State).finish)

/-- R69: BRIDGE_FAULT to FAULT while the generator runs is a forced cutoff: the generator stops, the restart mark and the requests go, both
channels are in FAULT, SCALE_FAULT is raised, and a capture in flight ends. Any other change moves the level only. -/
def Obligations.BridgeFaultCutsOff : Prop :=
  (∀ s : State, s.scale.gen.running = true →
    ∃ t, exec .forcedCutoff s = .next t ∧ t.scale.gen.running = false ∧ t.scale.gen.restart = false ∧
      t.scale.gen.bridge = .fault ∧ t.scale.conv.produce = false ∧ t.scale.conv.bagging = false ∧
      t.scale.produce.state = .fault ∧ t.scale.bagging.state = .fault ∧ t.scale.produce.samples = [] ∧
      t.scale.bagging.samples = [] ∧ t.scale.produce.tare = s.scale.produce.tare ∧
      t.cluster.wanted = s.cluster.wanted.add .scaleFault ∧ t.capture.flight = none ∧
      t.capture.interlock = s.capture.interlock ∧ t.sale.lines = s.sale.lines ∧ t.journal = s.journal) ∧
  (∀ s : State, s.scale.gen.running = false →
    exec .forcedCutoff s =
      .next ({ s with scale := { s.scale with gen := { s.scale.gen with bridge := .fault } } } : State).finish) ∧
  (∀ (s : State) (l : BridgeLevel), (l = .normal ∨ s.scale.gen.running = false) →
    exec (.bridgeFaultToNormal l) s =
      .next ({ s with scale := { s.scale with gen := { s.scale.gen with bridge := l } } } : State).finish)

/-- R71 to R79: a conversion ends: the next request is granted; a temperature, held to -20 to 120 (log entry 53), goes to the print engine; a scale
reading of the positive half is kept by its channel, and of the negative half forms a net sample with it; a reading to be discarded, or with no
positive one, changes nothing else. From the eighth net sample on the produce channel forms a weight: its state, stability, zero tracking and net. -/
def Obligations.ConversionEndDelivers : Prop :=
  (∀ (s : State) (z : Int) (w : Requester), s.scale.conv.converting = some w →
    let granted := ({ s.scale.conv with converting := none, discard := false } : Converter).grant
    (w = .temperature →
      ∃ t, exec (.conversionEnd z) s = .next t ∧ t.engine.headTemp = some (if z < -20 then -20 else if 120 < z then 120 else z) ∧
        t.scale.produce = s.scale.produce ∧ t.scale.bagging = s.scale.bagging ∧ t.sale = s.sale ∧ t.capture = s.capture ∧
        t.journal.array = s.journal.array) ∧
    (w ≠ .temperature → s.scale.conv.discard = true →
      exec (.conversionEnd z) s = .next ({ s with scale := { s.scale with conv := granted } } : State).finish) ∧
    (w = .produce → s.scale.conv.discard = false → s.scale.gen.running = true → -8388608 ≤ z → z ≤ 8388607 →
      ((s.scale.gen.phase = .positiveDead ∨ s.scale.gen.phase = .positiveDrive) →
        exec (.conversionEnd z) s =
          .next ({ s with scale := { s.scale with conv := granted,
                                                  produce := { s.scale.produce with positive := some z } } } : State).finish) ∧
      ((s.scale.gen.phase = .negativeDead ∨ s.scale.gen.phase = .negativeDrive) → s.scale.produce.positive = none →
        exec (.conversionEnd z) s = .next ({ s with scale := { s.scale with conv := granted } } : State).finish)) ∧
    (w = .bagging → s.scale.conv.discard = false → s.scale.gen.running = true → -8388608 ≤ z → z ≤ 8388607 →
      ((s.scale.gen.phase = .positiveDead ∨ s.scale.gen.phase = .positiveDrive) →
        exec (.conversionEnd z) s =
          .next ({ s with scale := { s.scale with conv := granted,
                                                  bagging := { s.scale.bagging with positive := some z } } } : State).finish) ∧
      ((s.scale.gen.phase = .negativeDead ∨ s.scale.gen.phase = .negativeDrive) → s.scale.bagging.positive = none →
        exec (.conversionEnd z) s = .next ({ s with scale := { s.scale with conv := granted } } : State).finish))) ∧
  (∀ (s : State) (z p : Int), -8388608 ≤ z → z ≤ 8388607 →
    let granted := ({ s.scale.conv with converting := none, discard := false } : Converter).grant
    (s.formsSample .produce s.scale.produce p → s.scale.produce.samples.length < 7 →
      exec (.conversionEnd z) s =
        .next ({ s with scale := { s.scale with
          conv := granted,
          produce := { s.scale.produce with samples := s.scale.produce.samples ++ [p - z], positive := none } } } : State).finish) ∧
    (s.formsSample .bagging s.scale.bagging p → s.scale.bagging.samples.length < 7 →
      exec (.conversionEnd z) s =
        .next ({ s with scale := { s.scale with
          conv := granted,
          bagging := { s.scale.bagging with samples := s.scale.bagging.samples ++ [p - z], positive := none } } } : State).finish)) ∧
  (∀ (s : State) (z p : Int), -8388608 ≤ z → z ≤ 8388607 → s.formsSample .produce s.scale.produce p →
    7 ≤ s.scale.produce.samples.length →
    let c := s.scale.produce
    let history := newest 8 (c.samples ++ [p - z])
    let gross := roundHalfUp (history.sum - c.zeroRef) (16 * c.span)
    let weights := newest 5 (c.weights ++ [gross])
    let stable := settledState gross == .ready && steadyWeights weights
    ∃ t, exec (.conversionEnd z) s = .next t ∧ t.scale.produce.samples = history ∧ t.scale.produce.positive = none ∧
      t.scale.produce.tare = c.tare ∧ t.scale.produce.span = c.span ∧ t.scale.bagging = s.scale.bagging ∧
      t.scale.gen = s.scale.gen ∧ t.cluster = s.cluster ∧ t.journal = s.journal ∧ t.engine = s.engine ∧
      (c.state = .ready ∨ c.state = .overload ∨ c.state = .underload ∨ (c.state = .warmup ∧ c.initialZero ≠ none) →
        t.scale.produce.state = settledState gross ∧ t.scale.produce.weights = weights ∧ t.scale.produce.stable = stable ∧
        t.scale.produce.gross = some gross ∧ t.scale.produce.net = some (gross - ((c.tare.getD 0 : Nat) : Int)) ∧
        t.scale.produce.initialZero = c.initialZero ∧
        t.scale.produce.zeroRef =
          (if stable = true ∧ c.tare = none ∧ -1 ≤ gross ∧ gross ≤ 1 ∧ c.offsetAllowed history.sum = true then history.sum
           else c.zeroRef)) ∧
      (c.state = .noZero ∨ (c.state = .warmup ∧ c.initialZero = none) →
        (steadyWeights weights = true → -300 ≤ gross → gross ≤ 300 →
          t.scale.produce.state = .ready ∧ t.scale.produce.zeroRef = history.sum ∧
          t.scale.produce.initialZero = some history.sum ∧ t.scale.produce.weights = [] ∧ t.scale.produce.stable = false) ∧
        (steadyWeights weights = true → (gross < -300 ∨ 300 < gross) →
          t.scale.produce.state = .noZero ∧ t.scale.produce.zeroRef = c.zeroRef ∧
          t.scale.produce.initialZero = c.initialZero ∧ t.scale.produce.weights = weights ∧ t.scale.produce.stable = false) ∧
        (steadyWeights weights = false →
          t.scale.produce.state = c.state ∧ t.scale.produce.zeroRef = c.zeroRef ∧ t.scale.produce.initialZero = c.initialZero ∧
          t.scale.produce.weights = weights ∧ t.scale.produce.stable = false)))

/-- R4, R83, R87 to R89, R92, R94: a produce weight goes to the capture unit. In WAIT_ZERO a gross within two divisions of 0 releases the interlock and
leads to WAIT_STABLE; a qualifying weight ends a capture with a WEIGHED line whose amount is its grams times its price per kilogram, plus 500, divided
by 1000; the reservation ends and the interlock is set; a bagged line posts its weight in bagging divisions with a tolerance of the greater of 3 and a
twentieth of it. A weight that does not qualify appends nothing, and with no capture in flight a gross within two divisions of 0 releases the
interlock. -/
def Obligations.CaptureAppendsItsLine : Prop :=
  (∀ (s : State) (c : CaptureRec) (gross net : Int), s.capture.flight = some c → c.phase = .waitStable → 20 ≤ net →
    (c.bag = true → s.bagging.entries.length < 4) →
    ∃ l, (s.captureWeight .ready true gross net).sale.lines = s.sale.lines ++ [l] ∧
      l.kind = .weighed (net * 5).toNat ∧ l.desc = c.desc ∧ l.price = c.price ∧
      l.amount = ((net * 5).toNat * c.price + 500) / 1000 ∧ l.voided = false ∧
      l.bag = (if c.bag then .pending else .skipped) ∧
      (s.captureWeight .ready true gross net).sale.total = s.sale.total + l.amount ∧
      (s.captureWeight .ready true gross net).sale.reservation = none ∧
      (s.captureWeight .ready true gross net).capture = { flight := none, interlock := true } ∧
      (let e := ((net * 5).toNat + 5) / 10
       (s.captureWeight .ready true gross net).bagging =
         if c.bag then
           { s.bagging with
             entries := s.bagging.entries ++ [{ line := s.sale.lines.length, removal := false, expected := e, tolerance := max 3 (e / 20),
                                                age := 0, overdue := false }],
             kept := s.bagging.kept ++ [{ line := s.sale.lines.length, expected := e, tolerance := max 3 (e / 20) }] }
         else s.bagging)) ∧
  (∀ (s : State) (st : ChannelState) (stable : Bool) (gross net : Int), s.capture.flight = none →
    (-2 ≤ gross → gross ≤ 2 →
      s.captureWeight st stable gross net = { s with capture := { s.capture with interlock := false } }) ∧
    ((gross < -2 ∨ 2 < gross) → s.captureWeight st stable gross net = s)) ∧
  (∀ (s : State) (c : CaptureRec) (st : ChannelState) (stable : Bool) (gross net : Int), s.capture.flight = some c →
    (c.phase = .waitZero → -2 ≤ gross → gross ≤ 2 →
      s.captureWeight st stable gross net =
        { s with capture := { flight := some { c with phase := .waitStable }, interlock := false } }) ∧
    (c.phase = .waitZero → (gross < -2 ∨ 2 < gross) → s.captureWeight st stable gross net = s) ∧
    (c.phase = .waitStable → (st ≠ .ready ∨ stable = false ∨ net < 20 ∨ (c.bag = true ∧ 4 ≤ s.bagging.entries.length)) →
      s.captureWeight st stable gross net =
        { s with capture := { s.capture with interlock := s.capture.interlock && !(decide (-2 ≤ gross) && decide (gross ≤ 2)) } })) ∧
  (∀ (s : State) (z p : Int), -8388608 ≤ z → z ≤ 8388607 → s.formsSample .produce s.scale.produce p →
    7 ≤ s.scale.produce.samples.length →
    ∃ t gross net, exec (.conversionEnd z) s = .next t ∧ t.scale.produce.gross = some gross ∧ t.scale.produce.net = some net ∧
      t.sale = (s.captureWeight t.scale.produce.state t.scale.produce.stable gross net).sale ∧
      t.capture = (s.captureWeight t.scale.produce.state t.scale.produce.stable gross net).capture ∧
      t.bagging = (s.captureWeight t.scale.produce.state t.scale.produce.stable gross net).bagging)

/-- R99: a deadline passes: the line's entry is overdue and stays at its place, and BAG_TIMEOUT is in the wanted set. The deadline
acts at whatever age of the entry (log entry 2). -/
def Obligations.DeadlineRaisesBagTimeout : Prop :=
  ∀ (s : State) (i : Nat) (e : Expectation), e ∈ s.bagging.entries → e.line = i → e.overdue = false →
    ∃ t, exec (.deadline i) s = .next t ∧
      t.bagging = { s.bagging with
        entries := s.bagging.entries.map (fun x => if x.line = i then { x with overdue := true } else x) } ∧
      t.cluster.wanted = s.cluster.wanted.add .bagTimeout ∧ t.sale = s.sale ∧ t.capture = s.capture ∧ t.scale = s.scale ∧
      t.journal = s.journal ∧ t.drawer = s.drawer ∧ t.engine = s.engine

/-! ## Cards, authority, assistance (Chapters 3 and 6) -/

/-- R104, R105: while the part is RUNNING a transition in QUIET begins a swipe, and in COLLECTING it restarts the swipe-end timer and is
timed: a full cell is a 0, an interval beyond the longest cell closes the channel. At 50 ms decoding begins, or SKIPPING ends; the
swipe-end timer acts at whatever value it stands (log entry 2). -/
def Obligations.SwipeIsCollected : Prop :=
  ∀ (s : State) (k : Track) (u : Nat),
    (s.link.part ≠ .running → exec (.trackTransition k u) s = .next s.finish) ∧
    (s.link.part = .running → s.card.phase = .quiet →
      let opened : Track → TrackChannel := fun j =>
        { bits := [], cells := [], since := if j = k then some 0 else none, half := none, opened := true, full := false }
      exec (.trackTransition k u) s =
        .next ({ s with card := { s.card with phase := .collecting, swipeTimer := some 0, late := false, a := opened .a,
                                              b := opened .b } } : State).finish) ∧
    (∀ d, s.link.part = .running → s.card.phase = .collecting → (s.card.channel k).opened = true →
      (s.card.channel k).since = some d → longestCell k < d + u →
      exec (.trackTransition k u) s =
        .next ({ s with card := ({ s.card with swipeTimer := some 0 } : Card).setChannel k
                          { s.card.channel k with opened := false } } : State).finish) ∧
    (∀ d x y z, s.link.part = .running → s.card.phase = .collecting → (s.card.channel k).opened = true →
      (s.card.channel k).since = some d → (s.card.channel k).half = none → (s.card.channel k).cells = [x, y, z] →
      (s.card.channel k).bits.length < 1024 → d + u ≤ longestCell k → x + y + z ≤ 4 * (d + u) →
      exec (.trackTransition k u) s =
        .next ({ s with card := ({ s.card with swipeTimer := some 0 } : Card).setChannel k
                          { s.card.channel k with bits := (s.card.channel k).bits ++ [false], cells := [d + u, x, y],
                                                  since := some 0 } } : State).finish) ∧
    (∀ w, s.card.phase = .collecting → s.card.swipeTimer = some w →
      exec .swipeEnd s =
        .next ({ s with card := { s.card with phase := .decoding, swipeTimer := none, late := false } } : State).finish) ∧
    (∀ w, s.card.phase = .skipping → s.card.swipeTimer = some w →
      exec .swipeEnd s = .next ({ s with card := { s.card with phase := .quiet, swipeTimer := none } } : State).finish)

/-- R111 to R115, R118, R120: the decoded record is held when it is a customer's and none is held; an unreadable one is not; while one is held
another only marks its overrun; an attendant's opens the window and makes a clear attempt with its last four digits. -/
def Obligations.DecodingHandlesTheRecord : Prop :=
  ∀ s : State, s.card.phase = .decoding →
    let r := cardRecord s.card.nextId s.card.prefixes s.card.a.bits s.card.b.bits
    ∃ t, exec .decodingEnd s = .next t ∧ t.card.phase = (if s.card.late then .collecting else .quiet) ∧
      t.card.a.bits = [] ∧ t.card.b.bits = [] ∧ t.card.prefixes = s.card.prefixes ∧
      (r.cls = .customer → s.card.held = none → t.card.held = some r) ∧
      (r.cls = .unreadable → s.card.held = none → t.card.held = none) ∧
      (∀ h, r.cls ≠ .attendant → s.card.held = some h → t.card.held = some { h with overrun := true }) ∧
      (r.cls = .attendant → t.card.held = s.card.held ∧ t.authority.window = some 0 ∧ t.authority.key = s.authority.key ∧
        s.clearAttempted t .card (lastFour (r.account.getD []))) ∧
      (r.cls ≠ .attendant → t.authority = s.authority ∧ t.sale = s.sale ∧ t.journal = s.journal ∧ t.cluster = s.cluster ∧
        t.bagging = s.bagging)

/-- R116, R117: DISCARD CARD wipes the held record and reports its overrun mark, and is refused with none held; the window timer at 30 s
ends authority unless the key is TURNED, with one AUTHORITY notice when it does. The timer acts at whatever value it stands (log
entry 2). -/
def Obligations.CardIsDiscardedAndWindowEnds : Prop :=
  (∀ (s : State) (tag : Byte), s.takesCommands → s.card.held = none → s.turnsAway (.discardCard tag) 0x0E tag .noCard) ∧
  (∀ (s : State) (tag : Byte) (r : CardRecord), s.takesCommands → s.card.held = some r →
    exec (.discardCard tag) s =
      .next (({ s with card := { s.card with held := none } } : State).reply 0x0E tag (.done (.overrun r.overrun))).finish) ∧
  (∀ (s : State) (w : Nat), s.authority.window = some w → s.authority.key = .turned →
    exec .windowTimer s = .next ({ s with authority := { s.authority with window := none } } : State).finish) ∧
  (∀ (s : State) (w : Nat), s.authority.window = some w → s.authority.key ≠ .turned →
    exec .windowTimer s =
      .next (({ s with authority := { s.authority with window := none } } : State).notice
        (.authority false false s.authority.key)).finish)

/-- R64, R65: RAISE ASSIST adds ASSIST to the wanted set and WITHDRAW ASSIST removes it, whether or not the set changes; the reply carries
the set, and in MEMBER the own entry waits for the frame. -/
def Obligations.AssistIsRaisedAndWithdrawn : Prop :=
  ∀ (s : State) (tag : Byte), s.takesCommands →
    (∃ t, exec (.raiseAssist tag) s = .next t ∧ t.cluster.wanted = s.cluster.wanted.add .assist ∧
      t.link.replies = s.link.replies ++
        [{ kind := 0x0F, tag := tag, body := .done (.wanted (s.cluster.wanted.add .assist)) }] ∧
      (s.cluster.state = .member → t.cluster.queue = s.cluster.queue) ∧ t.cluster.peers = s.cluster.peers ∧ t.sale = s.sale ∧
      t.scale = s.scale ∧ t.capture = s.capture ∧ t.bagging = s.bagging ∧ t.card = s.card ∧ t.authority = s.authority ∧
      t.sense = s.sense ∧ t.drawer = s.drawer ∧ t.tone = s.tone ∧ t.engine = s.engine ∧ t.composer = s.composer ∧
      t.journal = s.journal) ∧
    (∃ t, exec (.withdrawAssist tag) s = .next t ∧ t.cluster.wanted = s.cluster.wanted.remove .assist ∧
      t.link.replies = s.link.replies ++
        [{ kind := 0x10, tag := tag, body := .done (.wanted (s.cluster.wanted.remove .assist)) }] ∧
      (s.cluster.state = .member → t.cluster.queue = s.cluster.queue) ∧ t.cluster.peers = s.cluster.peers ∧ t.sale = s.sale ∧
      t.scale = s.scale ∧ t.capture = s.capture ∧ t.bagging = s.bagging ∧ t.card = s.card ∧ t.authority = s.authority ∧
      t.sense = s.sense ∧ t.drawer = s.drawer ∧ t.tone = s.tone ∧ t.engine = s.engine ∧ t.composer = s.composer ∧
      t.journal = s.journal)

/-! ## Sense inputs, drawer, tones (Chapter 7) -/

/-- R117, R121 to R124, R126 to R130, R148 to R150, R152: a raw change starts the 10 ms count, or cancels it when it reverts. A level held for 10 ms, at
whatever value of the count (log entry 2), is the debounced level: the watches are judged, and a watch whose mark has changed acts at its owner. A
spare input places an INPUT notice; NEAR_END places its notice; MEDIA raises PAPER_OUT and pauses the job, or starts its settling; CUTTER's return ends
the cut; KEY turns and returns, a turn with a clear attempt; DRAWER moves the drawer by its state. -/
def Obligations.LevelsAreDebounced : Prop :=
  (∀ (s : State) (i : SenseInput) (l : Level),
    (l = (s.sense.pin i).raw → exec (.rawLevelChange i l) s = .next s.finish) ∧
    (l ≠ (s.sense.pin i).raw → l = (s.sense.pin i).debounced →
      exec (.rawLevelChange i l) s =
        .next ({ s with sense := s.sense.setPin i { s.sense.pin i with raw := l, count := none } } : State).finish) ∧
    (l ≠ (s.sense.pin i).raw → l ≠ (s.sense.pin i).debounced →
      exec (.rawLevelChange i l) s =
        .next ({ s with sense := s.sense.setPin i { s.sense.pin i with raw := l, count := some 0 } } : State).finish)) ∧
  (∀ (s : State) (i : SenseInput) (n : Nat), (s.sense.pin i).count = some n → (s.sense.pin i).raw ≠ (s.sense.pin i).debounced →
    let settled : SensePin := { s.sense.pin i with debounced := (s.sense.pin i).raw, count := none }
    let sense := (s.sense.setPin i settled).judge
    let only := exec (.debouncedChange i) s = .next ({ s with sense := sense } : State).finish
    let running := s.link.part = .running
    (∃ t, exec (.debouncedChange i) s = .next t ∧ t.sense = sense) ∧
    ((i = .spare1 ∨ i = .spare2) → running →
      exec (.debouncedChange i) s =
        .next (({ s with sense := sense } : State).notice (.input i (s.sense.pin i).raw)).finish) ∧
    (i ≠ .drawer → ¬ running → only) ∧
    (i = .nearEnd → running →
      (s.sense.watchNearEnd.matching = sense.watchNearEnd.matching → only) ∧
      (s.sense.watchNearEnd.matching ≠ sense.watchNearEnd.matching →
        exec (.debouncedChange i) s =
          .next (({ s with sense := sense } : State).notice
            (.nearEnd (if sense.watchNearEnd.matching then .first else .second))).finish)) ∧
    ((i = .paper ∨ i = .cover) → running →
      (s.sense.watchMedia.matching = sense.watchMedia.matching → only) ∧
      (s.sense.watchMedia.matching = false → sense.watchMedia.matching = true →
        exec (.debouncedChange i) s =
          .next ({ s with sense := sense, engine := { s.engine with mediaSettle := some 0 } } : State).finish) ∧
      (s.sense.watchMedia.matching = true → sense.watchMedia.matching = false →
        ∃ t, exec (.debouncedChange i) s = .next t ∧ t.engine.mediaSettle = none ∧ t.engine.paperOut = true ∧
          t.cluster.wanted = s.cluster.wanted.add .paperOut ∧ t.sale = s.sale ∧ t.journal = s.journal ∧ t.drawer = s.drawer ∧
          (s.engine.state = .idle ∨ s.engine.state = .cutting ∨ s.engine.state = .pausedMedia →
            t.engine = { s.engine with mediaSettle := none, paperOut := true }) ∧
          (s.engine.state = .claiming ∨ s.engine.state = .pausedHot ∨
              ((s.engine.state = .printing ∨ s.engine.state = .feeding) ∧ s.engine.current ≠ none) →
            t.engine = { s.engine with mediaSettle := none, paperOut := true, mediaPause := true }) ∧
          (s.engine.state = .waitCommit ∨ ((s.engine.state = .printing ∨ s.engine.state = .feeding) ∧ s.engine.current = none) →
            t.engine.state = .pausedMedia ∧ t.engine.staged = none ∧ t.engine.mediaPause = false ∧ t.engine.job = s.engine.job))) ∧
    (i = .cutterHome → running →
      (s.sense.watchCutter.matching = sense.watchCutter.matching ∨ sense.watchCutter.matching = false → only) ∧
      (s.sense.watchCutter.matching = false → sense.watchCutter.matching = true →
        ∃ t, exec (.debouncedChange i) s = .next t ∧ t.cluster.wanted = s.cluster.wanted.remove .printerJam ∧
          (s.engine.state ≠ .cutting → t.engine = s.engine ∧ t.sale = s.sale) ∧
          (s.engine.state = .cutting → s.sale.waitingJob = none →
            t.engine.state = .idle ∧ t.engine.job = none ∧ t.engine.cutTimer = none ∧
            (∀ k, s.engine.job = some k → k ≠ .copy → s.sale.print = .running →
              (s.awaitsPrint → s.completesTo t s.sale.commit s.sale.journalSeq .done) ∧
              (¬ s.awaitsPrint → t.sale = { s.sale with print := .done }))))) ∧
    (i = .key → running →
      (s.sense.watchKey.matching = sense.watchKey.matching → only) ∧
      (s.sense.watchKey.matching = false → sense.watchKey.matching = true →
        ∃ t, exec (.debouncedChange i) s = .next t ∧ t.authority = { s.authority with key := .home } ∧ t.cluster = s.cluster ∧
          t.journal = s.journal ∧ t.sale = s.sale) ∧
      (s.sense.watchKey.matching = true → sense.watchKey.matching = false →
        (s.authority.key ≠ .home → only) ∧
        (s.authority.key = .home →
          ∃ t, exec (.debouncedChange i) s = .next t ∧ t.authority = { s.authority with key := .turned } ∧
            s.clearAttempted t .key []))) ∧
    (i = .drawer → ¬ running →
      (s.drawer.state = .closed → s.sense.watchDrawer.matching = true → sense.watchDrawer.matching = false →
        exec (.debouncedChange i) s =
          .next ({ s with sense := sense, drawer := { s.drawer with state := .opened } } : State).finish) ∧
      (s.drawer.state = .opened → s.sense.watchDrawer.matching = false → sense.watchDrawer.matching = true →
        exec (.debouncedChange i) s =
          .next ({ s with sense := sense, drawer := { s.drawer with state := .closed } } : State).finish)) ∧
    (i = .drawer → running →
      (s.sense.watchDrawer.matching = sense.watchDrawer.matching → only) ∧
      (s.sense.watchDrawer.matching = true → sense.watchDrawer.matching = false →
        (s.drawer.state = .closed →
          ∃ t, exec (.debouncedChange i) s = .next t ∧ t.drawer.state = .forced ∧ t.drawer.openTimer = some 0 ∧
            t.cluster.wanted = s.cluster.wanted.add .drawerForced ∧ t.sale = s.sale ∧ t.journal = s.journal) ∧
        (s.drawer.state = .kicking →
          exec (.debouncedChange i) s =
            .next ({ s with sense := sense, drawer := { s.drawer with openedMark := true } } : State).finish) ∧
        (s.drawer.state = .opened ∨ s.drawer.state = .forced → only) ∧
        (s.drawer.state = .claiming ∨ s.drawer.state = .confirm ∨ s.drawer.state = .retryGap ∨ s.drawer.state = .jammed →
          ∃ t, exec (.debouncedChange i) s = .next t ∧ t.drawer.state = .opened ∧ t.drawer.openTimer = some 0 ∧
            t.drawer.claimTimer = none ∧ t.drawer.noSale = false ∧ t.sale = s.sale ∧
            (s.drawer.noSale = false → t.cluster.wanted = s.cluster.wanted.remove .drawerJam) ∧
            (s.drawer.noSale = true → s.journal.level ≠ .fault →
              t.journal.queue = s.journal.queue ++ [.noSale s.drawer.noSaleSource]))) ∧
      (s.sense.watchDrawer.matching = false → sense.watchDrawer.matching = true →
        (s.drawer.state ≠ .opened → s.drawer.state ≠ .forced → only) ∧
        (s.drawer.state = .opened ∨ s.drawer.state = .forced →
          ∃ t, exec (.debouncedChange i) s = .next t ∧ t.drawer.state = .closed ∧ t.drawer.openTimer = none ∧
            t.cluster.wanted = s.cluster.wanted.remove .drawerOpenLong ∧ t.journal = s.journal ∧
            ((s.sale.state = .settled ∨ s.sale.state = .voided) → (s.sale.commit = .committed ∨ s.sale.commit = .failed) →
              (s.sale.print = .done ∨ s.sale.print = .doneUncut) →
              s.completesTo t s.sale.commit s.sale.journalSeq s.sale.print)))))

/-- R60, R125, R126, R131, R132: NO SALE and RETRY DRAWER, their checks in order; taken they kick the drawer: it claims its 6 units, and in LONE is
kicking at once where no unit of the lone budget is held, or waits for them; NO SALE also keeps its mark and its source. -/
def Obligations.DrawerIsKicked : Prop :=
  (∀ (s : State) (tag : Byte), s.takesCommands →
    (s.authority.present = false → s.turnsAway (.noSale tag) 0x11 tag .noAuthority) ∧
    (s.authority.present = true →
      (s.sale.state ≠ .idle → s.turnsAway (.noSale tag) 0x11 tag .badState) ∧
      (s.sale.state = .idle →
        (s.journal.level = .fault → s.turnsAway (.noSale tag) 0x11 tag .journalFault) ∧
        (s.journal.level = .full → s.turnsAway (.noSale tag) 0x11 tag .journalFull) ∧
        (s.journal.level ≠ .fault → s.journal.level ≠ .full →
          (s.drawer.noSale = true ∨ s.journal.noSaleWaiting = true → s.turnsAway (.noSale tag) 0x11 tag .journalBusy) ∧
          (s.drawer.noSale = false → s.journal.noSaleWaiting = false →
            (s.drawer.state ≠ .closed → s.drawer.state ≠ .jammed → s.turnsAway (.noSale tag) 0x11 tag .busy) ∧
            ((s.drawer.state = .closed ∨ s.drawer.state = .jammed) →
              ∃ t, exec (.noSale tag) s = .next t ∧ (t.drawer.state = .claiming ∨ t.drawer.state = .kicking) ∧
                t.drawer.noSale = true ∧ t.drawer.noSaleSource = (if s.authority.window.isSome then .card else .key) ∧
                t.drawer.retryCount = 0 ∧
                t.link.replies = s.link.replies ++ [{ kind := 0x11, tag := tag, body := .accepted .nothing }] ∧ t.sale = s.sale ∧
                t.journal = s.journal ∧ t.engine = s.engine ∧ t.card = s.card ∧ t.authority = s.authority ∧
                t.scale = s.scale)))))) ∧
  (∀ (s : State) (tag : Byte), s.takesCommands →
    (s.authority.present = false → s.turnsAway (.retryDrawer tag) 0x12 tag .noAuthority) ∧
    (s.authority.present = true →
      (s.drawer.state = .closed → s.turnsAway (.retryDrawer tag) 0x12 tag .badState) ∧
      (s.drawer.state ≠ .closed → s.drawer.state ≠ .jammed → s.turnsAway (.retryDrawer tag) 0x12 tag .busy) ∧
      (s.drawer.state = .jammed →
        ∃ t, exec (.retryDrawer tag) s = .next t ∧ (t.drawer.state = .claiming ∨ t.drawer.state = .kicking) ∧
          t.drawer.jam = none ∧ t.drawer.retryCount = 0 ∧ t.drawer.noSale = s.drawer.noSale ∧
          t.link.replies = s.link.replies ++ [{ kind := 0x12, tag := tag, body := .accepted .nothing }] ∧ t.sale = s.sale ∧
          t.journal = s.journal ∧ t.engine = s.engine ∧ t.card = s.card ∧ t.authority = s.authority ∧ t.scale = s.scale ∧
          (s.cluster.state = .lone → s.cluster.out = [] → s.cluster.heldRequests = [] →
            (s.cluster.ownSum = 0 →
              t.drawer.state = .kicking ∧ t.drawer.pulseTimer = some 0 ∧
              t.cluster.drawer = { holding := 6, request := .idle, claim := none }) ∧
            (0 < s.cluster.ownSum → s.cluster.drawer.holding < 6 →
              t.drawer.state = .claiming ∧ t.drawer.claimTimer = some 0 ∧ t.cluster.drawer.request = .waiting ∧
              t.cluster.drawer.claim = some (6, 6) ∧ t.cluster.drawer.holding = s.cluster.drawer.holding)))))

/-- R126 to R128: the drawer's timers: a claim that runs out jams it with cause SUPPLY; the pulse ends in CONFIRM, OPEN or CLOSED; a kick
not confirmed is retried once and then jams it with cause NO_OPEN; the gap ends in another claim. They act at
whatever value they stand (log entry 2). -/
def Obligations.DrawerTimersExpire : Prop :=
  (∀ (s : State) (u : Nat), s.drawer.state = .claiming → s.drawer.claimTimer = some u →
    ∃ t, exec .claimTimer s = .next t ∧ t.drawer.state = .jammed ∧ t.drawer.jam = some .supply ∧ t.drawer.claimTimer = none ∧
      t.cluster.wanted = s.cluster.wanted.add .drawerJam ∧ t.sale = s.sale) ∧
  (∀ (s : State) (u : Nat), s.drawer.state = .kicking → s.drawer.pulseTimer = some u →
    ∃ t, exec .pulseTimer s = .next t ∧ t.drawer.pulseTimer = none ∧
      (s.drawer.openedMark = false → t.drawer.state = .confirm ∧ t.drawer.confirmTimer = some 0 ∧ t.sale = s.sale) ∧
      (s.drawer.openedMark = true → s.sense.watchDrawer.matching = true → t.drawer.state = .closed) ∧
      (s.drawer.openedMark = true → s.sense.watchDrawer.matching = false → t.drawer.state = .opened ∧
        t.drawer.openTimer = some 0)) ∧
  (∀ (s : State) (u : Nat), s.drawer.state = .confirm → s.drawer.confirmTimer = some u →
    ∃ t, exec .confirmTimer s = .next t ∧ t.drawer.confirmTimer = none ∧ t.sale = s.sale ∧
      (s.drawer.retryCount = 0 → t.drawer.state = .retryGap ∧ t.drawer.retryCount = 1 ∧ t.drawer.gapTimer = some 0) ∧
      (s.drawer.retryCount ≠ 0 → t.drawer.state = .jammed ∧ t.drawer.jam = some .noOpen ∧
        t.cluster.wanted = s.cluster.wanted.add .drawerJam)) ∧
  (∀ (s : State) (u : Nat), s.drawer.state = .retryGap → s.drawer.gapTimer = some u →
    ∃ t, exec .retryGapTimer s = .next t ∧ (t.drawer.state = .claiming ∨ t.drawer.state = .kicking) ∧
      t.drawer.gapTimer = none ∧ t.drawer.retryCount = s.drawer.retryCount ∧ t.sale = s.sale)

/-- R130: an open drawer asks once for ALARM at 30 s, and at 60 s DRAWER_OPEN_LONG is raised and the timer stops; it acts
at whatever value it stands (log entry 2). -/
def Obligations.OpenDrawerAlarms : Prop :=
  ∀ (s : State) (u : Nat), s.link.part = .running → (s.drawer.state = .opened ∨ s.drawer.state = .forced) →
    s.drawer.openTimer = some u →
    (s.drawer.alarmAsked = false →
      exec .openTimerAlarm s =
        .next (({ s with drawer := { s.drawer with alarmAsked := true, openTimer := some (sec 30) } } : State).requestTone .alarm
          .drawerController).finish) ∧
    (s.drawer.alarmAsked = true → exec .openTimerAlarm s = .next s.finish) ∧
    (∃ t, exec .openTimerLong s = .next t ∧ t.drawer = { s.drawer with openTimer := none } ∧
      t.cluster.wanted = s.cluster.wanted.add .drawerOpenLong ∧ t.sale = s.sale ∧ t.tone = s.tone ∧ t.engine = s.engine ∧
      t.journal = s.journal)

/-- R135 to R137: PLAY TONE begins its tone with source HOST unless one of higher precedence plays, and STOP TONE ends any; a CHIRP, DOUBLE or
ALERT ends at its length and ALARM does not end of itself; a step of the sound moves its progress only. The sounder is silent with no tone, and
sounds ALARM's two pitches in turn, the lower first (log entry 65), ALERT falling by eighths, DOUBLE's two bursts and CHIRP's burst. A tone
ends at whatever time it has played (log entry 2). -/
def Obligations.TonesBeginAndEnd : Prop :=
  (∀ (s : State) (tag : Byte) (n : Nat), s.takesCommands → 4 ≤ n → s.turnsAway (.playTone tag n) 0x13 tag .range) ∧
  (∀ (s : State) (tag : Byte) (n : Nat) (t : ToneName), s.takesCommands → toneOf n = some t →
    ((∀ p, s.tone = some p → p.tone.precedence ≤ t.precedence) →
      exec (.playTone tag n) s =
        .next (({ s with tone := some { tone := t, source := .host, elapsed := 0, steps := 0 } } : State).reply 0x13 tag
          (.done (.toneResult true (some t)))).finish) ∧
    (∀ p, s.tone = some p → t.precedence < p.tone.precedence →
      exec (.playTone tag n) s = .next (s.reply 0x13 tag (.done (.toneResult false (some p.tone)))).finish)) ∧
  (∀ (s : State) (tag : Byte), s.takesCommands →
    exec (.stopTone tag) s =
      .next (({ s with tone := none } : State).reply 0x14 tag (.done (.toneStopped (s.tone.map (fun p => p.tone))))).finish) ∧
  (∀ (s : State) (p : Playing), s.tone = some p →
    (p.tone ≠ .alarm → exec .toneEnd s = .next ({ s with tone := none } : State).finish) ∧
    (p.tone = .alarm → exec .toneEnd s = .next s.finish) ∧
    (p.tone = .alert → p.steps < 7 →
      exec .toneStep s = .next ({ s with tone := some { p with steps := p.steps + 1 } } : State).finish) ∧
    (p.tone = .double → p.steps < 2 →
      exec .toneStep s = .next ({ s with tone := some { p with steps := p.steps + 1 } } : State).finish) ∧
    (p.tone = .alarm → exec .toneStep s = .next ({ s with tone := some { p with steps := (p.steps + 1) % 2 } } : State).finish) ∧
    (p.tone = .alarm → s.sounder = some { hertz := if p.steps % 2 = 0 then 1600 else 2400, level := 8 }) ∧
    (p.tone = .alert → p.steps < 8 → s.sounder = some { hertz := 2000, level := 8 - p.steps }) ∧
    (p.tone = .double → p.steps ≠ 1 → s.sounder = some { hertz := 2400, level := 8 }) ∧
    (p.tone = .double → p.steps = 1 → s.sounder = none) ∧
    (p.tone = .chirp → s.sounder = some { hertz := 2400, level := 8 })) ∧
  (∀ s : State, s.tone = none → s.sounder = none)

/-! ## The cluster bus (Chapters 2 and 3) -/

/-- R24, R39, R46: on a free bus a MEMBER offers the first frame of its list and a JOINING station its ROLL; a station in any other state, and
one whose frame is on the bus, offers none. -/
def Obligations.BusFreeOffersAFrame : Prop :=
  ∀ s : State,
    (∀ f fs, s.cluster.state = .member → s.cluster.onBus = none → s.cluster.out = f :: fs →
      exec .busFree s =
        .next ({ s with cluster := { s.cluster with
          onBus := some { age := f.age, frame := { sender := s.cluster.number, body := s.cluster.fill f.body } } } } :
            State).finish) ∧
    (∀ f, s.cluster.state = .joining → s.cluster.onBus = none → s.cluster.out.find? (fun g => g.body.isRoll) = some f →
      exec .busFree s =
        .next ({ s with cluster := { s.cluster with
          onBus := some { age := f.age, frame := { sender := s.cluster.number, body := s.cluster.fill f.body } } } } :
            State).finish) ∧
    ((s.cluster.state = .off ∨ s.cluster.state = .listen ∨ s.cluster.state = .lone) → exec .busFree s = .next s.finish) ∧
    (∀ b, s.cluster.onBus = some b → exec .busFree s = .next s.finish)

/-- R62: another station's CALL RAISE taken creates its entry at the tail with the counter's ticket, or replaces its reasons; its CALL CLEAR
removes its entry. The supply table is untouched. -/
def Obligations.CallFramesMoveTheQueue : Prop :=
  ∀ (s : State) (n : StationNo), s.cluster.listens = true → s.cluster.onBus = none → n ≠ s.cluster.number →
    (∀ r : Reasons, r ≠ 0 →
      ∃ t, exec (.callRaise n r (.read .asSent .asSent .asSent)) s = .next t ∧ t.cluster.peers = s.cluster.peers ∧
        t.sale = s.sale ∧ t.scale.produce = s.scale.produce ∧ t.scale.bagging = s.scale.bagging ∧ t.scale.gen = s.scale.gen ∧
        t.card = s.card ∧
        (s.cluster.entryOf n = none → (∀ e ∈ s.cluster.queue, e.ticket ≠ none) →
          t.cluster.queue = s.cluster.queue ++ [{ station := n, ticket := some s.cluster.counter, reasons := r }] ∧
          t.cluster.counter = s.cluster.counter + 1) ∧
        (∀ e, s.cluster.entryOf n = some e →
          t.cluster.queue = s.cluster.queue.map (fun x => if x.station = n then { x with reasons := r } else x) ∧
          t.cluster.counter = s.cluster.counter)) ∧
    (∀ cause : ClearCause,
      ∃ t, exec (.callClear n cause (.read .asSent .asSent .asSent)) s = .next t ∧ t.cluster.peers = s.cluster.peers ∧
        t.cluster.queue = s.cluster.queue.filter (fun e => e.station != n) ∧ t.cluster.counter = s.cluster.counter ∧
        t.sale = s.sale ∧ t.scale.produce = s.scale.produce ∧ t.scale.bagging = s.scale.bagging ∧ t.scale.gen = s.scale.gen ∧
        t.card = s.card)

/-- R54, R55: at a MEMBER another station's claim or top-up that is taken grows its count by the grant, and its RELEASE lowers it; the own
claim or top-up taken, read as it was driven, grows the holding by the grant when that reaches the minimum, and the own RELEASE lowers it. -/
def Obligations.SupplyFramesMoveTheTable : Prop :=
  (∀ (s : State) (n : StationNo) (k : Consumer) (lo hi : Nat), s.cluster.state = .member → s.cluster.onBus = none →
    n ≠ s.cluster.number → 1 ≤ lo → lo ≤ hi → hi ≤ 60 → (s.cluster.peerRow n).isSome = true →
    lo ≤ min hi (s.cluster.budget.getD 0 - s.cluster.tableSum) →
    (∃ t, exec (.shareClaim n k lo hi (.read .asSent .asSent .asSent)) s = .next t ∧
      t.cluster.peers = s.cluster.peers.map (fun r => if r.station = n then
        r.setCount k (r.count k + min hi (s.cluster.budget.getD 0 - s.cluster.tableSum)) else r) ∧
      t.cluster.printer.holding = s.cluster.printer.holding ∧ t.cluster.drawer.holding = s.cluster.drawer.holding ∧
      t.cluster.queue = s.cluster.queue) ∧
    (∃ t, exec (.shareTopup n k lo hi (.read .asSent .asSent .asSent)) s = .next t ∧
      t.cluster.peers = s.cluster.peers.map (fun r => if r.station = n then
        r.setCount k (r.count k + min hi (s.cluster.budget.getD 0 - s.cluster.tableSum)) else r) ∧
      t.cluster.printer.holding = s.cluster.printer.holding ∧ t.cluster.drawer.holding = s.cluster.drawer.holding ∧
      t.cluster.queue = s.cluster.queue)) ∧
  (∀ (s : State) (n : StationNo) (k : Consumer) (u : Nat), s.cluster.state = .member → s.cluster.onBus = none →
    n ≠ s.cluster.number → 1 ≤ u → u ≤ 60 →
    ∃ t, exec (.shareRelease n k u (.read .asSent .asSent .asSent)) s = .next t ∧
      t.cluster.peers = s.cluster.peers.map (fun r => if r.station = n then r.setCount k (r.count k - u) else r) ∧
      t.cluster.printer.holding = s.cluster.printer.holding ∧ t.cluster.drawer.holding = s.cluster.drawer.holding ∧
      t.cluster.queue = s.cluster.queue) ∧
  (∀ (s : State) (a : Nat) (k : Consumer) (lo hi : Nat) (h : Heard), s.cluster.state = .member →
    (s.cluster.onBus = some { age := a, frame := { sender := s.cluster.number, body := .claim k lo hi } } →
      s.hearsItself { sender := s.cluster.number, body := .claim k lo hi } h →
      ∃ t, exec (.shareClaim s.cluster.number k lo hi h) s = .next t ∧ t.cluster.peers = s.cluster.peers ∧
        (t.cluster.consumer k).holding = (s.cluster.consumer k).holding +
          (if lo ≤ min hi (s.cluster.budget.getD 0 - s.cluster.tableSum)
           then min hi (s.cluster.budget.getD 0 - s.cluster.tableSum) else 0)) ∧
    (s.cluster.onBus = some { age := a, frame := { sender := s.cluster.number, body := .topup k lo hi } } →
      s.hearsItself { sender := s.cluster.number, body := .topup k lo hi } h →
      ∃ t, exec (.shareTopup s.cluster.number k lo hi h) s = .next t ∧ t.cluster.peers = s.cluster.peers ∧
        (t.cluster.consumer k).holding = (s.cluster.consumer k).holding +
          (if lo ≤ min hi (s.cluster.budget.getD 0 - s.cluster.tableSum)
           then min hi (s.cluster.budget.getD 0 - s.cluster.tableSum) else 0))) ∧
  (∀ (s : State) (a : Nat) (k : Consumer) (u : Nat) (h : Heard), s.cluster.state = .member →
    s.cluster.onBus = some { age := a, frame := { sender := s.cluster.number, body := .release k u } } →
    s.hearsItself { sender := s.cluster.number, body := .release k u } h →
    ∃ t, exec (.shareRelease s.cluster.number k u h) s = .next t ∧ t.cluster.peers = s.cluster.peers ∧
      (t.cluster.consumer k).holding = (s.cluster.consumer k).holding - u)

/-- R47, R50, R56, R61, R63: a taken EXPIRE of another station removes its row, its entry and its silence timer; another station's ROLL taken in
LISTEN or JOINING replaces its row, and at a MEMBER lowers it to the ROLL's values, or raises it within what B leaves, with a TABLE CONFLICT notice; its
ticket field moves the counter, and its call fields remove the station's entry, replace its reasons, or place it in ticket order or at the tail; the
own JOIN ROLL taken, read as it was driven, makes the station a MEMBER. -/
def Obligations.ExpireAndRollMoveTheTables : Prop :=
  (∀ (s : State) (n x : StationNo), s.cluster.listens = true → s.cluster.onBus = none → n ≠ s.cluster.number →
    x ≠ s.cluster.number →
    ∃ t, exec (.expire n x (.read .asSent .asSent .asSent)) s = .next t ∧
      t.cluster.peers = s.cluster.peers.filter (fun r => r.station != x) ∧
      t.cluster.queue = s.cluster.queue.filter (fun e => e.station != x) ∧ (∀ y ∈ t.cluster.silence, y.1 ≠ x)) ∧
  (∀ (s : State) (n : StationNo) (r : RollFields), s.cluster.onBus = none → n ≠ s.cluster.number →
    8 ≤ r.budget → r.budget ≤ 60 → r.printer ≤ 60 → r.drawer ≤ 60 →
    ((s.cluster.state = .listen ∨ s.cluster.state = .joining) →
      ∃ t, exec (.roll n r (.read .asSent .asSent .asSent)) s = .next t ∧
        t.cluster.peerRow n = some { station := n, printer := r.printer, drawer := r.drawer } ∧
        (r.callOpen = false → t.cluster.queue = s.cluster.queue.filter (fun e => e.station != n) ∧ s.cluster.learns r.ticket t.cluster) ∧
        (r.callOpen = true → s.cluster.rollPlaces t.cluster n r)) ∧
    (s.cluster.state = .member → (r.join = false ∨ s.cluster.budget = some r.budget) →
      let row := (s.cluster.peerRow n).getD { station := n, printer := 0, drawer := 0 }
      let v := s.cluster.rollValues row r
      ∃ t, exec (.roll n r (.read .asSent .asSent .asSent)) s = .next t ∧
        t.cluster.peerRow n = some { station := n, printer := v.1, drawer := v.2 } ∧
        (row.drawer < r.drawer → s.places t (.tableConflict n .drawer row.drawer (some r.drawer) v.2)) ∧
        (row.printer < r.printer → s.places t (.tableConflict n .printer row.printer (some r.printer) v.1)) ∧
        (r.callOpen = false → t.cluster.queue = s.cluster.queue.filter (fun e => e.station != n) ∧ s.cluster.learns r.ticket t.cluster) ∧
        (r.callOpen = true → s.cluster.entryOf n = none → s.cluster.rollPlaces t.cluster n r) ∧
        (r.callOpen = true → s.cluster.entryOf n ≠ none →
          t.cluster.queue = s.cluster.queue.map (fun e => if e.station = n then { e with reasons := r.reasons } else e) ∧
          s.cluster.learns r.ticket t.cluster))) ∧
  (∀ (s : State) (a : Nat) (r : RollFields) (h : Heard), s.cluster.state = .joining → r.join = true →
    s.cluster.onBus = some { age := a, frame := { sender := s.cluster.number, body := .roll r } } →
    s.hearsItself { sender := s.cluster.number, body := .roll r } h →
    ∃ t, exec (.roll s.cluster.number r h) s = .next t ∧ t.cluster.state = .member ∧ t.cluster.rollTimer = some 0)

/-- R25, R26, R30, R31, R33, R37, R38, R51: no station acts on a frame that was vetoed, was void or was aborted by a break, another station's or its own;
a stuff violation at the active receiver aborts another station's frame, and a mismatch there aborts the own frame. The own vetoed frame returns the
failure count to 0, and a vetoed claim waits; a lost arbitration leaves the count; the own void or aborted frame stays pending and the count rises, and
at the fourth failure the line is evaluated: another receiver takes over, or the station goes LONE (readings of an own frame: log entry 52; the
slots of an aborted one: log entry 14). -/
def Obligations.NoStationActsOnOtherOutcomes : Prop :=
  (∀ (s : State) (f : Frame) (d sa sb : Reading), s.cluster.listens = true → s.cluster.onBus = none →
    s.cluster.heldRequests = [] → f.sender ≠ s.cluster.number →
    (∃ t, exec (.frameVetoed f (.read d sa sb)) s = .next t ∧ s.tablesStand t) ∧
    (∀ o : ResponseSlots, o.fault = true → ∃ t, exec (.frameVoid f (.read d sa sb) o) s = .next t ∧ s.tablesStand t) ∧
    ((activeReading (d, sa, sb) s.cluster.mode).violates = true →
      (∀ (n : StationNo) (r : Reasons), n ≠ s.cluster.number →
        ∃ t, exec (.callRaise n r (.read d sa sb)) s = .next t ∧ s.tablesStand t) ∧
      (∀ (n : StationNo) (k : Consumer) (lo hi : Nat), n ≠ s.cluster.number →
        ∃ t, exec (.shareClaim n k lo hi (.read d sa sb)) s = .next t ∧ s.tablesStand t))) ∧
  (∀ (s : State) (d sa sb : Bool), s.cluster.listens = true →
    (s.cluster.onBus = none → exec (.frameAborted false d sa sb) s = .next s.finish) ∧
    (s.cluster.onBus ≠ none → s.cluster.heldRequests = [] →
      ∃ t, exec (.frameAborted false d sa sb) s = .next t ∧ s.tablesStand t ∧ t.cluster.failures = s.cluster.failures ∧
        t.cluster.onBus = none)) ∧
  (∀ (s : State) (a : Nat) (f : Frame) (h : Heard), s.cluster.state = .member → (∀ r, f.body ≠ .roll r) →
    s.cluster.onBus = some { age := a, frame := f } → s.hearsItself f h →
    ∃ t, exec (.frameVetoed f h) s = .next t ∧ t.cluster.peers = s.cluster.peers ∧ t.cluster.queue = s.cluster.queue ∧
      t.cluster.printer.holding = s.cluster.printer.holding ∧ t.cluster.drawer.holding = s.cluster.drawer.holding ∧
      t.cluster.failures = [] ∧ t.cluster.onBus = none ∧
      (∀ k lo hi, f.body = .claim k lo hi → s.cluster.heldRequests = [] → (t.cluster.consumer k).request = .waiting)) ∧
  (∀ (s : State) (a : Nat) (f : Frame) (o : ResponseSlots), s.cluster.state = .member → s.cluster.mode = .full →
    s.cluster.onBus = some { age := a, frame := f } → s.cluster.heldRequests = [] → s.cluster.failures.length + 1 < 4 →
    (o.ack = false ∨ o.fault = true) →
    ∃ t, exec (.frameVoid f .missed o) s = .next t ∧ s.tablesStand t ∧
      t.cluster.failures.length = s.cluster.failures.length + 1 ∧ t.cluster.onBus = none ∧ t.cluster.state = .member) ∧
  (∀ (s : State) (a : Nat) (k : Consumer) (lo hi : Nat) (d sa sb : Reading) (p : Nat), s.cluster.state = .member →
    s.cluster.onBus = some { age := a, frame := { sender := s.cluster.number, body := .claim k lo hi } } →
    s.cluster.heldRequests = [] →
    let f : Frame := { sender := s.cluster.number, body := .claim k lo hi }
    let active := activeReading (d, sa, sb) s.cluster.mode
    active.differsAt f = some p →
    (active.losesArbitration f = true →
      ∃ t, exec (.shareClaim s.cluster.number k lo hi (.read d sa sb)) s = .next t ∧ s.tablesStand t ∧
        t.cluster.failures = s.cluster.failures ∧ t.cluster.onBus = none ∧ t.cluster.state = .member) ∧
    (active.losesArbitration f = false → s.cluster.failures.length + 1 < 4 →
      ∃ t, exec (.shareClaim s.cluster.number k lo hi (.read d sa sb)) s = .next t ∧ s.tablesStand t ∧
        t.cluster.failures.length = s.cluster.failures.length + 1 ∧ t.cluster.onBus = none ∧ t.cluster.state = .member)) ∧
  (∀ (s : State) (a : Nat) (f : Frame) (d sa sb : Bool), s.cluster.state = .member →
    s.cluster.onBus = some { age := a, frame := f } → s.cluster.heldRequests = [] →
    let v : Verdicts := { d := d, sa := sa, sb := sb }
    (s.cluster.failures.length + 1 < 4 →
      ∃ t, exec (.frameAborted true d sa sb) s = .next t ∧ s.tablesStand t ∧
        t.cluster.failures.length = s.cluster.failures.length + 1 ∧ t.cluster.onBus = none ∧ t.cluster.state = .member) ∧
    (s.cluster.failures.length + 1 = 4 → v.active s.cluster.mode = false →
      (∀ m, v.other s.cluster.mode = some m →
        ∃ t, exec (.frameAborted true d sa sb) s = .next t ∧ s.tablesStand t ∧ t.cluster.mode = m ∧ t.cluster.failures = [] ∧
          t.cluster.state = .member) ∧
      (v.other s.cluster.mode = none → s.engine.job = none → (∀ g ∈ s.cluster.out, g.body = .roll ∨ ∃ n, g.body = .expire n) →
        s.cluster.printer.request ≠ .waiting → s.cluster.drawer.request ≠ .waiting →
        ∃ t, exec (.frameAborted true d sa sb) s = .next t ∧ s.goesLone t .line)) ∧
    (s.cluster.failures.length + 1 = 4 → v.active s.cluster.mode = true →
      s.cluster.failures.all (fun x => x.verdicts.active s.cluster.mode) = true → s.engine.job = none →
      (∀ g ∈ s.cluster.out, g.body = .roll ∨ ∃ n, g.body = .expire n) →
      s.cluster.printer.request ≠ .waiting → s.cluster.drawer.request ≠ .waiting →
      ∃ t, exec (.frameAborted true d sa sb) s = .next t ∧ s.goesLone t .line)) ∧
  (∀ (s : State) (a : Nat) (f : Frame) (d sa sb : Bool), s.cluster.state = .joining →
    s.cluster.onBus = some { age := a, frame := f } → s.cluster.heldRequests = [] → s.cluster.failures.length + 1 = 4 →
    ({ d := d, sa := sa, sb := sb } : Verdicts).active s.cluster.mode = true →
    s.cluster.failures.all (fun x => x.ackRecessive && x.verdicts.active s.cluster.mode) = true → s.engine.job = none →
    (∀ g ∈ s.cluster.out, g.body = .roll ∨ ∃ n, g.body = .expire n) →
    s.cluster.printer.request ≠ .waiting → s.cluster.drawer.request ≠ .waiting →
    ∃ t, exec (.frameAborted true d sa sb) s = .next t ∧ s.goesLone t .alone)

/-- R45, R48, R49, R52: the station's timers, at whatever value they stand (log entry 2): LISTEN ends in LONE, in another LISTEN or in JOINING; a ROLL is
asked for each 500 ms; an EXPIRE is asked for of a silent station; the retry timer stops at 10 s, and a LONE station that holds nothing leaves for
LISTEN, while one that holds units keeps the model's mark that the timer has passed (log entry 20) and leaves once it holds none. -/
def Obligations.StationTimersExpire : Prop :=
  (∀ (s : State) (u : Nat), s.cluster.state = .listen → s.cluster.listen = some u →
    (s.cluster.duplicate = true →
      ∃ t, exec .listenTimer s = .next t ∧ t.cluster.state = .lone ∧ t.cluster.loneCause = some .duplicate) ∧
    (s.cluster.duplicate = false → s.cluster.budgetMark = true →
      ∃ t, exec .listenTimer s = .next t ∧ t.cluster.state = .lone ∧ t.cluster.loneCause = some .budget) ∧
    (s.cluster.duplicate = false → s.cluster.budgetMark = false → s.cluster.budget.getD 0 < s.cluster.tableSum →
      exec .listenTimer s = .next ({ s with cluster := { s.cluster with listen := some 0 } } : State).finish) ∧
    (s.cluster.duplicate = false → s.cluster.budgetMark = false → s.cluster.tableSum ≤ s.cluster.budget.getD 0 →
      ∃ t, exec .listenTimer s = .next t ∧ t.cluster.state = .joining ∧ t.cluster.listen = none ∧
        (∃ f ∈ t.cluster.out, f.body = .roll) ∧ t.cluster.peers = s.cluster.peers ∧ t.cluster.queue = s.cluster.queue)) ∧
  (∀ (s : State) (u : Nat), s.cluster.state = .member → s.cluster.rollTimer = some u →
    ∃ t, exec .rollTimer s = .next t ∧ t.cluster.rollTimer = some 0 ∧ (∃ f ∈ t.cluster.out, f.body = .roll) ∧
      t.cluster.peers = s.cluster.peers ∧ t.cluster.queue = s.cluster.queue ∧ t.cluster.wanted = s.cluster.wanted) ∧
  (∀ (s : State) (n : StationNo) (u : Nat), s.cluster.state = .member → (n, u) ∈ s.cluster.silence → u < ms 1500 →
    ∃ t, exec (.silenceTimer n) s = .next t ∧ (∀ y ∈ t.cluster.silence, y.1 = n → y.2 = ms 1500) ∧
      ((s.cluster.out.filter (fun f => f.body.isExpire)).length < 2 → ∃ f ∈ t.cluster.out, f.body = .expire n) ∧
      t.cluster.peers = s.cluster.peers ∧ t.cluster.queue = s.cluster.queue) ∧
  (∀ (s : State) (u : Nat), s.cluster.state = .lone → s.cluster.retry = some u →
    (s.cluster.ownSum = 0 → ∃ t, exec .retryTimer s = .next t ∧ t.cluster.state = .listen ∧ t.cluster.listen = some 0) ∧
    (0 < s.cluster.ownSum →
      exec .retryTimer s =
        .next ({ s with cluster := { s.cluster with retry := none, retryPassed := true } } : State).finish)) ∧
  (∀ (s : State) (u : Nat), s.cluster.state = .lone → s.cluster.retryPassed = true → s.cluster.printer.holding = 0 →
    s.cluster.printer.request = .idle → 0 < s.cluster.drawer.holding → s.drawer.state = .kicking → s.drawer.pulseTimer = some u →
    ∃ t, exec .pulseTimer s = .next t ∧ t.cluster.state = .listen ∧ t.cluster.drawer.holding = 0)

/-! ## Printing and composition (Chapters 8 and 9) -/

/-- R20, R21, R140, R142, R146, R147, R149, R151 to R153: a pass leads to the next or to the first step, which waits for the step of a discarded row
(log entry 55); a step records its phase, the next of the fixed cycle, after a row cut between its steps too (log entry 48), and the last blank row
leads to CUTTING; a hot head is polled; a settled medium withdraws PAPER_OUT; a cut that takes 600 ms raises PRINTER_JAM and ends the job DONE_UNCUT,
and with it a sale that waits for nothing else; a copy's end hands over the job that the sale waits with. The timers act at whatever value they stand
(log entry 2). -/
def Obligations.EngineEventsMoveTheJob : Prop :=
  (∀ (s : State) (r : CurrentRow) (p : List Nat), s.engine.current = some r → r.pass = some p →
    (∀ q qs, r.plan = q :: qs →
      exec .passEnd s =
        .next ({ s with engine := { s.engine with current := some { r with pass := some q, plan := qs } } } : State).finish) ∧
    (r.plan = [] →
      exec .passEnd s =
        .next ({ s with engine := { s.engine with current := some { r with pass := none },
                                                  step := if s.engine.step = some .leftover then some .leftover else some .one } } :
          State).finish)) ∧
  (∀ (s : State) (r : CurrentRow), s.engine.current = some r → r.pass = none →
    (s.engine.step = some .one →
      exec .stepEnd s =
        .next ({ s with engine := { s.engine with motorPhase := s.engine.motorPhase + 1, step := some .two } } :
          State).finish) ∧
    (s.engine.step = some .two →
      ∃ t, exec .stepEnd s = .next t ∧ t.engine.motorPhase = s.engine.motorPhase + 1 ∧ t.engine.job = s.engine.job ∧
        t.sale = s.sale ∧
        (r.feed = true → 112 ≤ s.engine.feedCount + 1 → t.engine.state = .cutting ∧ t.engine.cutTimer = some 0)) ∧
    (s.engine.step = some .leftover →
      exec .stepEnd s =
        .next ({ s with engine := { s.engine with motorPhase := s.engine.motorPhase + 1, step := some .one } } :
          State).finish)) ∧
  (∀ s : State, s.engine.step = some .leftover → (s.engine.current = none ∨ ∃ r p, s.engine.current = some r ∧ r.pass = some p) →
    exec .stepEnd s =
      .next ({ s with engine := { s.engine with motorPhase := s.engine.motorPhase + 1, step := none } } : State).finish) ∧
  (∀ s : State, s.engine.state = .pausedHot →
    exec .hotPoll s =
      .next ({ s with scale := { s.scale with conv := ({ s.scale.conv with temperature := true } : Converter).grant } } :
        State).finish) ∧
  (∀ (s : State) (u : Nat), s.engine.mediaSettle = some u →
    ∃ t, exec .mediaSettle s = .next t ∧ t.engine.mediaSettle = none ∧ t.engine.paperOut = false ∧
      t.engine.mediaPause = false ∧ t.cluster.wanted = s.cluster.wanted.remove .paperOut ∧ t.sale = s.sale ∧
      (s.engine.state ≠ .pausedMedia → t.engine.state = s.engine.state ∧ t.composer = s.composer)) ∧
  (∀ (s : State) (u : Nat), s.engine.state = .cutting → s.engine.cutTimer = some u →
    ∃ t, exec .cutTimer s = .next t ∧ t.cluster.wanted = s.cluster.wanted.add .printerJam ∧
      (∀ k, s.sale.waitingJob = some k → s.engine.job = some .copy →
        t.engine.job = some k ∧ t.engine.state ≠ .idle ∧ t.engine.cutTimer = none ∧ t.composer.kind = some k ∧
        t.sale = { s.sale with waitingJob := none }) ∧
      (s.sale.waitingJob = none → t.engine.state = .idle ∧ t.engine.job = none ∧ t.engine.cutTimer = none ∧
        (∀ k, s.engine.job = some k → k ≠ .copy → s.sale.print = .running →
          (s.awaitsPrint → s.completesTo t s.sale.commit s.sale.journalSeq .doneUncut) ∧
          (¬ s.awaitsPrint → t.sale = { s.sale with print := .doneUncut }))))

/-- R60, R139, R156, R159, R163: REPRINT LAST, its checks in order; taken, it starts a COPY RECEIPT of the last committed SALE or VOID record, and in LONE,
with no unit held, its claim is granted at once. The composer places the line at its cursor and moves past it, and the footer's line brings it to
LAST_GIVEN. -/
def Obligations.ReceiptsAreComposed : Prop :=
  (∀ (s : State) (tag : Byte), s.takesCommands →
    (s.authority.present = false → s.turnsAway (.reprintLast tag) 0x15 tag .noAuthority) ∧
    (s.authority.present = true → s.sale.state ≠ .idle → s.turnsAway (.reprintLast tag) 0x15 tag .badState) ∧
    (s.authority.present = true → s.sale.state = .idle → s.engine.state ≠ .idle → s.turnsAway (.reprintLast tag) 0x15 tag .busy) ∧
    (s.authority.present = true → s.sale.state = .idle → s.engine.state = .idle → s.journal.lastSale = none →
      s.turnsAway (.reprintLast tag) 0x15 tag .noRecord)) ∧
  (∀ (s : State) (tag : Byte) (l : LastSale), s.takesCommands → s.authority.present = true → s.sale.state = .idle →
    s.engine.state = .idle → s.journal.lastSale = some l →
    ∃ t, exec (.reprintLast tag) s = .next t ∧ t.engine.job = some .copy ∧ t.composer.kind = some .copy ∧
      (∃ c, t.composer.copy = some c ∧ c.seq = l.seq ∧ c.addr = l.addr ∧ c.check = .unknown) ∧ t.sale = s.sale ∧
      t.journal.array = s.journal.array ∧
      t.link.replies = s.link.replies ++ [{ kind := 0x15, tag := tag, body := .accepted (.copySource l.seq) }] ∧
      (s.cluster.state = .lone → s.cluster.ownSum = 0 → 1 ≤ s.engine.headMax →
        t.cluster.printer = { holding := min (2 + s.engine.headMax) 6, request := .idle, claim := none })) ∧
  (∀ (s : State) (c : Cursor) (txt : Text), s.composer.state = .composing → s.composer.queue.length < 8 →
    s.composer.cursor = some c → s.lineAtCursor = some txt → s.engine.state ≠ .printing → s.engine.state ≠ .waitCommit →
    ∃ t, exec .placeLine s = .next t ∧ t.composer.queue = s.composer.queue ++ [txt] ∧
      t.composer.cursor = some (nextCursor s.composer.headers.length s.receipt.1 c) ∧
      (c.part = .footer → t.composer.state = .lastGiven) ∧ t.engine = s.engine ∧ t.sale = s.sale ∧ t.cluster = s.cluster ∧
      t.journal.array = s.journal.array) ∧
  (∀ (s : State) (h : Text) (i j : Nat), s.composer.cursor = some ⟨.header, i, j⟩ → s.composer.headers[i]? = some h →
    s.lineAtCursor = some (centred h))

/-! ## The journal store (Chapter 10) -/

/-- R168, R178: WRITE IDENTITY taken starts the writing of block 0, a DAMAGED one erased first, and a WRITTEN one is LOCKED; CONFIRM EXPORT taken
queues a MARK, or merges its sequence into the one that waits. -/
def Obligations.JournalTakesItsCommands : Prop :=
  (∀ (s : State) (tag : Byte) (n : Nat) (l : Text), s.handsOver → s.link.part ≠ .starting → n ≤ 9999 → textIn 1 8 l = true →
    (s.journal.identity.isWritten → s.turnsAway (.writeIdentity tag n l) 0x16 tag .locked) ∧
    (¬ s.journal.identity.isWritten → s.journal.identityWrite = none → s.journal.level ≠ .fault →
      ∃ t w, exec (.writeIdentity tag n l) s = .next t ∧ t.journal.identityWrite = some w ∧ w.store = n ∧ w.label = l ∧
        w.erase = decide (s.journal.identity = .damaged) ∧ w.programs = recordPrograms 0 (identityBytes n l) ∧
        t.journal.array = s.journal.array ∧ t.journal.queue = s.journal.queue ∧ t.sale = s.sale ∧ t.cluster = s.cluster ∧
        t.link.replies = s.link.replies ++ [{ kind := 0x16, tag := tag, body := .accepted .nothing }])) ∧
  (∀ (s : State) (tag : Byte) (q : Seq), s.takesCommands → s.journal.level ≠ .fault →
    (s.journal.exportAllowed q = false → s.turnsAway (.confirmExport tag q) 0x18 tag .range) ∧
    (s.journal.exportAllowed q = true →
      ∃ t, exec (.confirmExport tag q) s = .next t ∧ t.journal.mark = s.journal.mark ∧ t.journal.array = s.journal.array ∧
        (s.journal.waitingMark = none → t.journal.queue = s.journal.queue ++ [.mark q]) ∧
        (s.journal.waitingMark ≠ none →
          t.journal.queue = s.journal.queue.map (fun a => if a.isMark then .mark q else a)) ∧ t.sale = s.sale ∧
        t.link.replies = s.link.replies ++ [{ kind := 0x18, tag := tag, body := .accepted .nothing }]))

/-- R19, R169, R170, R172: with no append in progress the oldest is taken when it can be placed: it gets the sequence after the last committed one, and a
SALE or VOID the receipt number after the last, which is reported to the sale; it starts at the write point, or at the next block, behind a PAD that is
due, and the write point moves past it. A SALE or VOID is not taken in FULL, even where it could be placed (log entry 56). While the oldest waits on
blocked erase-ahead, the oldest MARK is taken ahead of it. -/
def Obligations.OldestAppendIsTaken : Prop :=
  (∀ (s : State) (a : Append) (rest : List Append), s.journal.scan = none → s.journal.taken = none →
    s.journal.queue = a :: rest → s.journal.placeable s.sale a = true → (a.isSale = true → s.journal.level ≠ .full) →
    ∃ t x, exec .takeAppend s = .next t ∧ t.journal.taken = some x ∧ x.kind = a.kind ∧ x.seq = nextSeq s.journal.lastSeq ∧
      x.receipt = (if a.kind.isSale then some (nextReceipt s.journal.lastReceipt) else none) ∧
      x.length = recordLength a.kind (a.body s.sale s.journal.lastReceipt) ∧
      (let record := recordPrograms x.addr
         (recordBytes a.kind x.seq (nextReceipt s.journal.lastReceipt) (a.body s.sale s.journal.lastReceipt))
       let writePoint := (s.journal.writeBlock + 1) * 4096 - s.journal.rest
       (x.length ≤ s.journal.rest →
         x.addr = writePoint ∧ t.journal.writeBlock = s.journal.writeBlock ∧ t.journal.rest = s.journal.rest - x.length ∧
         x.programs = record) ∧
       (s.journal.rest < x.length →
         x.addr = nextBlock s.journal.writeBlock * 4096 ∧ t.journal.writeBlock = nextBlock s.journal.writeBlock ∧
         t.journal.rest = 4096 - x.length ∧
         x.programs = (if s.journal.rest < 8 then [] else pagePrograms 2 writePoint (padBytes s.journal.rest x.seq)) ++ record)) ∧
      (a.isSale = true → t.sale.receipt = x.receipt) ∧ (a.isSale = false → t.sale = s.sale) ∧ t.journal.queue = rest ∧
      t.journal.lastSeq = s.journal.lastSeq ∧ t.journal.array = s.journal.array ∧ t.drawer = s.drawer ∧ t.engine = s.engine) ∧
  (∀ (s : State) (a : Append) (rest : List Append), s.journal.queue = a :: rest → a.isSale = true → s.journal.level = .full →
    rest.find? Append.isMark = none → exec .takeAppend s = .next s.finish) ∧
  (∀ (s : State) (a : Append) (rest : List Append) (v : Seq), s.journal.scan = none → s.journal.taken = none →
    s.journal.queue = a :: rest →
    (s.journal.placeable s.sale a = false ∨ (a.isSale = true ∧ s.journal.level = .full)) → s.journal.targetBlocked = true →
    rest.find? Append.isMark = some (.mark v) → s.journal.placeable s.sale (.mark v) = true →
    ∃ t x, exec .takeAppend s = .next t ∧ t.journal.taken = some x ∧ x.kind = .mark ∧ x.markValue = some v ∧
      x.seq = nextSeq s.journal.lastSeq ∧ x.receipt = none ∧ t.journal.queue = (a :: rest).erase (.mark v) ∧ t.sale = s.sale ∧
      t.journal.array = s.journal.array ∧ t.journal.mark = s.journal.mark)

/-- R19, R21, R166, R172, R174, R175: a page program that verifies leaves at each byte the AND of its old value and the value given, and every other byte
as it was; the last one of an append commits its record, and the verdict on the sale's own completes a sale that waits for nothing else. An erase that
verifies leaves 0xFF in its block and every other byte as it was. Either that fails verify puts the journal in FAULT with no append left. Erase-ahead
starts the erase of its target. -/
def Obligations.ArrayOperationsComplete : Prop :=
  (∀ (s : State) (o : ArrayOwner) (a : Nat) (bs : List Byte), s.arrayWf →
    s.journal.arbiter.running = some (.program o a bs) → programPasses s.journal.array a bs true = true →
    ∃ t, exec (.programDone true) s = .next t ∧
      (∀ x, (x < a ∨ a + bs.length ≤ x) → Memory.read t.journal.array x = Memory.read s.journal.array x) ∧
      (∀ i b, bs[i]? = some b → a + i < arraySize →
        Memory.read t.journal.array (a + i) = Memory.read s.journal.array (a + i) &&& b) ∧
      (∀ x, o = .append → s.journal.taken = some x → x.programs.length ≤ 1 →
        t.journal.lastSeq = x.seq ∧ t.journal.taken = none ∧
        (x.kind.isSale = true → x.receipt = s.sale.receipt → s.sale.commit = .pending →
          (s.awaitsCommit → s.completesTo t .committed (some x.seq) s.sale.print) ∧
          (¬ s.awaitsCommit → t.sale = { s.sale with commit := .committed, journalSeq := some x.seq })))) ∧
  (∀ (s : State) (e : EraseOp), s.journal.arbiter.running = some (.erase e) →
    ∃ t, exec (.eraseDone true) s = .next t ∧
      (∀ x, Memory.read t.journal.array x = if x / 4096 = e.block then 0xFF else Memory.read s.journal.array x)) ∧
  (∀ (s : State) (o : ArrayOwner) (a : Nat) (bs : List Byte), s.journal.arbiter.running = some (.program o a bs) →
    ∃ t, exec (.programDone false) s = .next t ∧ t.journal.level = .fault ∧ t.journal.taken = none ∧ t.journal.queue = []) ∧
  (∀ (s : State) (e : EraseOp), s.journal.arbiter.running = some (.erase e) →
    ∃ t, exec (.eraseDone false) s = .next t ∧ t.journal.level = .fault ∧ t.journal.taken = none ∧ t.journal.queue = []) ∧
  (∀ (s : State) (b : Nat), s.eraseAheadTarget = some b →
    exec .eraseAheadStart s =
      .next ({ s with journal := { s.journal with arbiter := { s.journal.arbiter with
        running := some (.erase { owner := .eraseAhead, block := b, suspensions := 0, elapsed := 0 }) } } } : State).finish)

/-- R173, R177, R182: READ JOURNAL, its checks in order, with the record looked up at once (log entry 29); taken, it reserves its place and starts its
reads with no reply yet; its last read forms the reply with the bytes read and frees the reader, and a record whose block has been erased meanwhile is
refused NO_RECORD. -/
def Obligations.ReadJournalReads : Prop :=
  (∀ (s : State) (tag : Byte) (q : Seq) (offset : Nat), s.takesCommands →
    (s.link.reserved.isSome = true → s.turnsAway (.readJournal tag q offset) 0x17 tag .busy) ∧
    (s.link.reserved = none →
      (s.journal.blockOf q = none → s.turnsAway (.readJournal tag q offset) 0x17 tag .noRecord) ∧
      (∀ b, s.journal.blockOf q = some b →
        (findRecord s.journal.array b q = none → s.turnsAway (.readJournal tag q offset) 0x17 tag .noRecord) ∧
        (∀ r, findRecord s.journal.array b q = some r →
          (r.length ≤ offset → s.turnsAway (.readJournal tag q offset) 0x17 tag .range) ∧
          (offset < r.length →
            ∃ t, exec (.readJournal tag q offset) s = .next t ∧ t.link.reserved = some tag ∧ t.link.replies = s.link.replies ∧
              t.journal.reader = some { tag := tag, seq := q, offset := offset, block := b, walk := 0, found := none } ∧
              t.journal.array = s.journal.array ∧ t.journal.queue = s.journal.queue ∧ t.sale = s.sale ∧
              t.cluster = s.cluster))))) ∧
  (∀ (s : State) (r : JournalReader) (k : RecordKind) (a n length : Nat),
    s.journal.arbiter.running = some (.read .reader a n) → s.journal.reader = some r → r.found = some (k, length) →
    s.journal.isErased r.block = false →
    ∃ t, exec .readDone s = .next t ∧ t.journal.reader = none ∧ t.link.reserved = none ∧
      t.link.replies = s.link.replies ++
        [{ kind := 0x17, tag := r.tag,
           body := .done (.record r.seq r.offset length k (Memory.readBytes s.journal.array a n)) }] ∧
      t.journal.array = s.journal.array ∧ t.journal.queue = s.journal.queue ∧ t.sale = s.sale ∧ t.cluster = s.cluster) ∧
  (∀ (s : State) (r : JournalReader) (a n : Nat),
    s.journal.arbiter.running = some (.read .reader a n) → s.journal.reader = some r → s.journal.isErased r.block = true →
    ∃ t, exec .readDone s = .next t ∧ t.journal.reader = none ∧ t.link.reserved = none ∧
      t.link.replies = s.link.replies ++ [{ kind := 0x17, tag := r.tag, body := .refused .noRecord }] ∧
      t.journal.array = s.journal.array ∧ t.journal.queue = s.journal.queue ∧ t.sale = s.sale ∧ t.cluster = s.cluster)

/-- R168, R176, R179, R184: the end of the start-up scan sets the journal's state from the array and puts the part in UNCONFIGURED. The highest
committed record of the ring gives the last committed sequence, the write block and the rest; the highest SALE or VOID the last sale record; the
highest MARK the export mark; the later of these two the last receipt number; each ring block is ERASED, DIRTY or WRITTEN with its sequences; and the
level is NEAR_FULL below 64 available blocks. An array with nothing written gives a BLANK identity, no sequence, no receipt and no mark. SCAN_END acts
at whatever address the scan has reached (log entry 27). -/
def Obligations.ScanEndsTheStart : Prop :=
  ∀ s : State, s.link.part = .starting →
    ∃ t, exec .scanEnd s = .next t ∧ t.link.part = .unconfigured ∧ t.journal.scan = none ∧
      t.journal.identity = readIdentity s.journal.array ∧ t.journal.array = s.journal.array ∧ t.sale = s.sale ∧
      t.cluster = s.cluster ∧ t.link.replies = s.link.replies ∧
      (let m := s.journal.array
       let sale := highestRecord ((ringRecords m).filter (fun r => r.kind.isSale))
       let mark := highestRecord ((ringRecords m).filter (fun r => r.kind == .mark))
       (highestRecord (ringRecords m) = none →
         t.journal.lastSeq = 0 ∧ t.journal.writeBlock = 1023 ∧ t.journal.rest = 0) ∧
       (∀ r, highestRecord (ringRecords m) = some r →
         t.journal.lastSeq = r.seq ∧ t.journal.writeBlock = r.addr / 4096 ∧ t.journal.rest = openRest m (r.addr / 4096)) ∧
       t.journal.lastSale = sale.map (fun r => { seq := r.seq, addr := r.addr }) ∧
       (mark = none → t.journal.mark = 0) ∧
       (∀ r, mark = some r → t.journal.mark = BitVec.ofNat 32 (natOf (Memory.readBytes m (r.addr + 8) 4))) ∧
       (sale = none → mark = none → t.journal.lastReceipt = 0) ∧
       (∀ r, sale = some r → (∀ q, mark = some q → seqHigher q.seq r.seq = false) →
         t.journal.lastReceipt = natOf (Memory.readBytes m (r.addr + 8) 3)) ∧
       (∀ q, mark = some q → (∀ r, sale = some r → seqHigher q.seq r.seq = true) →
         t.journal.lastReceipt = natOf (Memory.readBytes m (q.addr + 12) 3)) ∧
       (∀ b, 1 ≤ b → b ≤ 1023 →
         t.journal.blockState b =
           if Memory.blockErased m b then none
           else if headerAt m (b * 4096) ((b + 1) * 4096) = none then some .dirty
           else some (.written (seqRange (walkBlock m b).records)))) ∧
      (s.journal.level = .normal → s.journal.queue = [] →
        t.journal.level = if t.journal.available < 64 then .nearFull else .normal) ∧
      (s.journal.array = [] →
        t.journal.identity = .blank ∧ t.journal.lastSeq = 0 ∧ t.journal.lastReceipt = 0 ∧ t.journal.mark = 0 ∧
        t.journal.blocks = [] ∧ t.journal.writeBlock = 1023 ∧ t.journal.rest = 0)

/-! ## Invariants and encodings -/

/-- The invariants hold right after reset; the canonical form of the array is the model's (log entry 8). -/
def Obligations.InvariantsHoldAtReset : Prop :=
  State.reset.repliesWf ∧ State.reset.noticesWf ∧ State.reset.textWf ∧ State.reset.arrayWf ∧ State.reset.sumsWf ∧
  State.reset.boundsWf

/-- R156, R182, R183: every step keeps the reply list within 4 places, the notice queue within 32 and in order of priority, and the text line queue
within 8. -/
def Obligations.EveryStepKeepsTheQueuesBounded : Prop :=
  ∀ s t : State, s.repliesWf → s.noticesWf → s.textWf → step s = .next t → t.repliesWf ∧ t.noticesWf ∧ t.textWf

/-- R166: every step keeps the journal array in its canonical form. -/
def Obligations.EveryStepKeepsTheArrayCanonical : Prop := ∀ s t : State, s.arrayWf → step s = .next t → t.arrayWf

/-- R7: every step keeps the total equal to the sum of the amounts of the lines whose voided flag is clear, and the due equal to the total less the
tenders. -/
def Obligations.EveryStepKeepsTheSums : Prop := ∀ s t : State, s.sumsWf → step s = .next t → t.sumsWf

/-- R3, R7, R12: every step keeps the lines within 64 and the total within 99,999,999, the capture reservation included. -/
def Obligations.EveryStepKeepsTheBounds : Prop := ∀ s t : State, s.boundsWf → step s = .next t → t.boundsWf

/-- R182, R189: the body of a command's message, laid out and read again, is the command with every field at its value. -/
def Obligations.CommandsReadBack : Prop :=
  ∀ (c : HostCommand) (tag : Byte), c.wf = true → readBody (c.body tag) = .command tag c

/-- R25, R28, R190: the slots of a frame, stuffed and with their check, decode to the frame with every field at its value. -/
def Obligations.FramesReadBack : Prop := ∀ f : Frame, f.wf = true → decodeSlots f.slots = some f

/-- R95 to R98: a bagging weight moves the channel; a stable one that follows a moving one is a baseline event while the baseline is wanted, and a settle
event otherwise, judged in OPEN and TENDER against the expectation list: at the baseline it withdraws its reasons, the smallest prefix that matches
leaves the list, and anything else raises BAG_MISMATCH, UNEXPECTED_ITEM or ITEM_REMOVED. -/
def Obligations.BaggingWeightsAreJudged : Prop :=
  ∀ (s : State) (z p : Int), -8388608 ≤ z → z ≤ 8388607 → s.formsSample .bagging s.scale.bagging p →
    7 ≤ s.scale.bagging.samples.length →
    let c := s.scale.bagging
    let history := newest 8 (c.samples ++ [p - z])
    let gross := roundHalfUp (history.sum - c.zeroRef) (16 * c.span)
    let weights := newest 5 (c.weights ++ [gross])
    let stable := settledState gross == .ready && steadyWeights weights
    let wanted := c.baselineWanted || c.state == .warmup
    ∃ t, exec (.conversionEnd z) s = .next t ∧ t.scale.bagging.samples = history ∧ t.scale.bagging.state = settledState gross ∧
      t.scale.bagging.weights = weights ∧ t.scale.bagging.stable = stable ∧ t.scale.bagging.gross = some gross ∧
      t.scale.bagging.zeroRef = c.zeroRef ∧ t.scale.bagging.baselineWanted = (wanted && !stable) ∧
      t.scale.produce = s.scale.produce ∧ t.capture = s.capture ∧ t.journal = s.journal ∧ t.engine = s.engine ∧
      t.drawer = s.drawer ∧
      (stable = false ∨ (wanted = false ∧ c.stable = true) →
        t.bagging = s.bagging ∧ t.sale = s.sale ∧ t.cluster = s.cluster) ∧
      (stable = true → wanted = true →
        t.bagging = { s.bagging with baseline := some gross } ∧ t.sale = s.sale ∧ t.cluster = s.cluster) ∧
      (stable = true → wanted = false → c.stable = false →
        (s.sale.state ≠ .opened → s.sale.state ≠ .tender →
          t.bagging = { s.bagging with baseline := some gross } ∧ t.sale = s.sale ∧ t.cluster = s.cluster) ∧
        (∀ base, (s.sale.state = .opened ∨ s.sale.state = .tender) → s.bagging.baseline = some base →
          let delta := gross - base
          (-2 ≤ delta → delta ≤ 2 →
            t.bagging = s.bagging ∧ t.sale = s.sale ∧
            t.cluster.wanted =
              ((s.cluster.wanted.remove .unexpectedItem).remove .itemRemoved).remove .bagMismatch) ∧
          ((delta < -2 ∨ 2 < delta) →
            (∀ n, s.bagging.prefixMatches delta n → (∀ m < n, ¬ s.bagging.prefixMatches delta m) →
              (s.bagging.entries.map (fun e => e.line)).Nodup →
              t.bagging = { s.bagging with entries := s.bagging.entries.drop n, baseline := some gross } ∧
              t.sale.total = s.sale.total ∧
              (∀ e ∈ s.bagging.entries.take n, ∀ l, s.sale.lines[e.line]? = some l →
                t.sale.lines[e.line]? = some { l with bag := if e.removal then .removed else .bagged }) ∧
              t.cluster.wanted =
                (if (s.bagging.entries.drop n).any (fun e => e.overdue) then s.cluster.wanted.remove .bagMismatch
                 else (s.cluster.wanted.remove .bagMismatch).remove .bagTimeout)) ∧
            ((∀ n, ¬ s.bagging.prefixMatches delta n) →
              t.bagging = s.bagging ∧ t.sale = s.sale ∧
              t.cluster.wanted = s.cluster.wanted.add
                (if s.bagging.entries ≠ [] then .bagMismatch else if 0 < delta then .unexpectedItem else .itemRemoved)))))
end

