-- ==== Sys2Proof/Laws/State.lean ====
section
/-! SUPPORT. What each update of a field of State does: the field has the new value, and every other field is as it was. -/

set_option Elab.async false

namespace Sys2Proof.Machine

section link
variable (s : State) (x : Link)

@[simp] theorem setLink_link : (s.setLink x).link = x := rfl
@[simp] theorem setLink_sale : (s.setLink x).sale = s.sale := rfl
@[simp] theorem setLink_cluster : (s.setLink x).cluster = s.cluster := rfl
@[simp] theorem setLink_scale : (s.setLink x).scale = s.scale := rfl
@[simp] theorem setLink_capture : (s.setLink x).capture = s.capture := rfl
@[simp] theorem setLink_bagging : (s.setLink x).bagging = s.bagging := rfl
@[simp] theorem setLink_card : (s.setLink x).card = s.card := rfl
@[simp] theorem setLink_authority : (s.setLink x).authority = s.authority := rfl
@[simp] theorem setLink_sense : (s.setLink x).sense = s.sense := rfl
@[simp] theorem setLink_drawer : (s.setLink x).drawer = s.drawer := rfl
@[simp] theorem setLink_tone : (s.setLink x).tone = s.tone := rfl
@[simp] theorem setLink_engine : (s.setLink x).engine = s.engine := rfl
@[simp] theorem setLink_composer : (s.setLink x).composer = s.composer := rfl
@[simp] theorem setLink_journal : (s.setLink x).journal = s.journal := rfl
@[simp] theorem setLink_fresh : (s.setLink x).fresh = s.fresh := rfl
@[simp] theorem setLink_pending : (s.setLink x).pending = s.pending := rfl

end link

section sale
variable (s : State) (x : Sale)

@[simp] theorem setSale_link : (s.setSale x).link = s.link := rfl
@[simp] theorem setSale_sale : (s.setSale x).sale = x := rfl
@[simp] theorem setSale_cluster : (s.setSale x).cluster = s.cluster := rfl
@[simp] theorem setSale_scale : (s.setSale x).scale = s.scale := rfl
@[simp] theorem setSale_capture : (s.setSale x).capture = s.capture := rfl
@[simp] theorem setSale_bagging : (s.setSale x).bagging = s.bagging := rfl
@[simp] theorem setSale_card : (s.setSale x).card = s.card := rfl
@[simp] theorem setSale_authority : (s.setSale x).authority = s.authority := rfl
@[simp] theorem setSale_sense : (s.setSale x).sense = s.sense := rfl
@[simp] theorem setSale_drawer : (s.setSale x).drawer = s.drawer := rfl
@[simp] theorem setSale_tone : (s.setSale x).tone = s.tone := rfl
@[simp] theorem setSale_engine : (s.setSale x).engine = s.engine := rfl
@[simp] theorem setSale_composer : (s.setSale x).composer = s.composer := rfl
@[simp] theorem setSale_journal : (s.setSale x).journal = s.journal := rfl
@[simp] theorem setSale_fresh : (s.setSale x).fresh = s.fresh := rfl
@[simp] theorem setSale_pending : (s.setSale x).pending = s.pending := rfl

end sale

section cluster
variable (s : State) (x : Cluster)

@[simp] theorem setCluster_link : (s.setCluster x).link = s.link := rfl
@[simp] theorem setCluster_sale : (s.setCluster x).sale = s.sale := rfl
@[simp] theorem setCluster_cluster : (s.setCluster x).cluster = x := rfl
@[simp] theorem setCluster_scale : (s.setCluster x).scale = s.scale := rfl
@[simp] theorem setCluster_capture : (s.setCluster x).capture = s.capture := rfl
@[simp] theorem setCluster_bagging : (s.setCluster x).bagging = s.bagging := rfl
@[simp] theorem setCluster_card : (s.setCluster x).card = s.card := rfl
@[simp] theorem setCluster_authority : (s.setCluster x).authority = s.authority := rfl
@[simp] theorem setCluster_sense : (s.setCluster x).sense = s.sense := rfl
@[simp] theorem setCluster_drawer : (s.setCluster x).drawer = s.drawer := rfl
@[simp] theorem setCluster_tone : (s.setCluster x).tone = s.tone := rfl
@[simp] theorem setCluster_engine : (s.setCluster x).engine = s.engine := rfl
@[simp] theorem setCluster_composer : (s.setCluster x).composer = s.composer := rfl
@[simp] theorem setCluster_journal : (s.setCluster x).journal = s.journal := rfl
@[simp] theorem setCluster_fresh : (s.setCluster x).fresh = s.fresh := rfl
@[simp] theorem setCluster_pending : (s.setCluster x).pending = s.pending := rfl

end cluster

section scale
variable (s : State) (x : Scale)

@[simp] theorem setScale_link : (s.setScale x).link = s.link := rfl
@[simp] theorem setScale_sale : (s.setScale x).sale = s.sale := rfl
@[simp] theorem setScale_cluster : (s.setScale x).cluster = s.cluster := rfl
@[simp] theorem setScale_scale : (s.setScale x).scale = x := rfl
@[simp] theorem setScale_capture : (s.setScale x).capture = s.capture := rfl
@[simp] theorem setScale_bagging : (s.setScale x).bagging = s.bagging := rfl
@[simp] theorem setScale_card : (s.setScale x).card = s.card := rfl
@[simp] theorem setScale_authority : (s.setScale x).authority = s.authority := rfl
@[simp] theorem setScale_sense : (s.setScale x).sense = s.sense := rfl
@[simp] theorem setScale_drawer : (s.setScale x).drawer = s.drawer := rfl
@[simp] theorem setScale_tone : (s.setScale x).tone = s.tone := rfl
@[simp] theorem setScale_engine : (s.setScale x).engine = s.engine := rfl
@[simp] theorem setScale_composer : (s.setScale x).composer = s.composer := rfl
@[simp] theorem setScale_journal : (s.setScale x).journal = s.journal := rfl
@[simp] theorem setScale_fresh : (s.setScale x).fresh = s.fresh := rfl
@[simp] theorem setScale_pending : (s.setScale x).pending = s.pending := rfl

end scale

section capture
variable (s : State) (x : Capture)

@[simp] theorem setCapture_link : (s.setCapture x).link = s.link := rfl
@[simp] theorem setCapture_sale : (s.setCapture x).sale = s.sale := rfl
@[simp] theorem setCapture_cluster : (s.setCapture x).cluster = s.cluster := rfl
@[simp] theorem setCapture_scale : (s.setCapture x).scale = s.scale := rfl
@[simp] theorem setCapture_capture : (s.setCapture x).capture = x := rfl
@[simp] theorem setCapture_bagging : (s.setCapture x).bagging = s.bagging := rfl
@[simp] theorem setCapture_card : (s.setCapture x).card = s.card := rfl
@[simp] theorem setCapture_authority : (s.setCapture x).authority = s.authority := rfl
@[simp] theorem setCapture_sense : (s.setCapture x).sense = s.sense := rfl
@[simp] theorem setCapture_drawer : (s.setCapture x).drawer = s.drawer := rfl
@[simp] theorem setCapture_tone : (s.setCapture x).tone = s.tone := rfl
@[simp] theorem setCapture_engine : (s.setCapture x).engine = s.engine := rfl
@[simp] theorem setCapture_composer : (s.setCapture x).composer = s.composer := rfl
@[simp] theorem setCapture_journal : (s.setCapture x).journal = s.journal := rfl
@[simp] theorem setCapture_fresh : (s.setCapture x).fresh = s.fresh := rfl
@[simp] theorem setCapture_pending : (s.setCapture x).pending = s.pending := rfl

end capture

section bagging
variable (s : State) (x : Bagging)

@[simp] theorem setBagging_link : (s.setBagging x).link = s.link := rfl
@[simp] theorem setBagging_sale : (s.setBagging x).sale = s.sale := rfl
@[simp] theorem setBagging_cluster : (s.setBagging x).cluster = s.cluster := rfl
@[simp] theorem setBagging_scale : (s.setBagging x).scale = s.scale := rfl
@[simp] theorem setBagging_capture : (s.setBagging x).capture = s.capture := rfl
@[simp] theorem setBagging_bagging : (s.setBagging x).bagging = x := rfl
@[simp] theorem setBagging_card : (s.setBagging x).card = s.card := rfl
@[simp] theorem setBagging_authority : (s.setBagging x).authority = s.authority := rfl
@[simp] theorem setBagging_sense : (s.setBagging x).sense = s.sense := rfl
@[simp] theorem setBagging_drawer : (s.setBagging x).drawer = s.drawer := rfl
@[simp] theorem setBagging_tone : (s.setBagging x).tone = s.tone := rfl
@[simp] theorem setBagging_engine : (s.setBagging x).engine = s.engine := rfl
@[simp] theorem setBagging_composer : (s.setBagging x).composer = s.composer := rfl
@[simp] theorem setBagging_journal : (s.setBagging x).journal = s.journal := rfl
@[simp] theorem setBagging_fresh : (s.setBagging x).fresh = s.fresh := rfl
@[simp] theorem setBagging_pending : (s.setBagging x).pending = s.pending := rfl

end bagging

section card
variable (s : State) (x : Card)

@[simp] theorem setCard_link : (s.setCard x).link = s.link := rfl
@[simp] theorem setCard_sale : (s.setCard x).sale = s.sale := rfl
@[simp] theorem setCard_cluster : (s.setCard x).cluster = s.cluster := rfl
@[simp] theorem setCard_scale : (s.setCard x).scale = s.scale := rfl
@[simp] theorem setCard_capture : (s.setCard x).capture = s.capture := rfl
@[simp] theorem setCard_bagging : (s.setCard x).bagging = s.bagging := rfl
@[simp] theorem setCard_card : (s.setCard x).card = x := rfl
@[simp] theorem setCard_authority : (s.setCard x).authority = s.authority := rfl
@[simp] theorem setCard_sense : (s.setCard x).sense = s.sense := rfl
@[simp] theorem setCard_drawer : (s.setCard x).drawer = s.drawer := rfl
@[simp] theorem setCard_tone : (s.setCard x).tone = s.tone := rfl
@[simp] theorem setCard_engine : (s.setCard x).engine = s.engine := rfl
@[simp] theorem setCard_composer : (s.setCard x).composer = s.composer := rfl
@[simp] theorem setCard_journal : (s.setCard x).journal = s.journal := rfl
@[simp] theorem setCard_fresh : (s.setCard x).fresh = s.fresh := rfl
@[simp] theorem setCard_pending : (s.setCard x).pending = s.pending := rfl

end card

section authority
variable (s : State) (x : Authority)

@[simp] theorem setAuthority_link : (s.setAuthority x).link = s.link := rfl
@[simp] theorem setAuthority_sale : (s.setAuthority x).sale = s.sale := rfl
@[simp] theorem setAuthority_cluster : (s.setAuthority x).cluster = s.cluster := rfl
@[simp] theorem setAuthority_scale : (s.setAuthority x).scale = s.scale := rfl
@[simp] theorem setAuthority_capture : (s.setAuthority x).capture = s.capture := rfl
@[simp] theorem setAuthority_bagging : (s.setAuthority x).bagging = s.bagging := rfl
@[simp] theorem setAuthority_card : (s.setAuthority x).card = s.card := rfl
@[simp] theorem setAuthority_authority : (s.setAuthority x).authority = x := rfl
@[simp] theorem setAuthority_sense : (s.setAuthority x).sense = s.sense := rfl
@[simp] theorem setAuthority_drawer : (s.setAuthority x).drawer = s.drawer := rfl
@[simp] theorem setAuthority_tone : (s.setAuthority x).tone = s.tone := rfl
@[simp] theorem setAuthority_engine : (s.setAuthority x).engine = s.engine := rfl
@[simp] theorem setAuthority_composer : (s.setAuthority x).composer = s.composer := rfl
@[simp] theorem setAuthority_journal : (s.setAuthority x).journal = s.journal := rfl
@[simp] theorem setAuthority_fresh : (s.setAuthority x).fresh = s.fresh := rfl
@[simp] theorem setAuthority_pending : (s.setAuthority x).pending = s.pending := rfl

end authority

section sense
variable (s : State) (x : Sense)

@[simp] theorem setSense_link : (s.setSense x).link = s.link := rfl
@[simp] theorem setSense_sale : (s.setSense x).sale = s.sale := rfl
@[simp] theorem setSense_cluster : (s.setSense x).cluster = s.cluster := rfl
@[simp] theorem setSense_scale : (s.setSense x).scale = s.scale := rfl
@[simp] theorem setSense_capture : (s.setSense x).capture = s.capture := rfl
@[simp] theorem setSense_bagging : (s.setSense x).bagging = s.bagging := rfl
@[simp] theorem setSense_card : (s.setSense x).card = s.card := rfl
@[simp] theorem setSense_authority : (s.setSense x).authority = s.authority := rfl
@[simp] theorem setSense_sense : (s.setSense x).sense = x := rfl
@[simp] theorem setSense_drawer : (s.setSense x).drawer = s.drawer := rfl
@[simp] theorem setSense_tone : (s.setSense x).tone = s.tone := rfl
@[simp] theorem setSense_engine : (s.setSense x).engine = s.engine := rfl
@[simp] theorem setSense_composer : (s.setSense x).composer = s.composer := rfl
@[simp] theorem setSense_journal : (s.setSense x).journal = s.journal := rfl
@[simp] theorem setSense_fresh : (s.setSense x).fresh = s.fresh := rfl
@[simp] theorem setSense_pending : (s.setSense x).pending = s.pending := rfl

end sense

section drawer
variable (s : State) (x : Drawer)

@[simp] theorem setDrawer_link : (s.setDrawer x).link = s.link := rfl
@[simp] theorem setDrawer_sale : (s.setDrawer x).sale = s.sale := rfl
@[simp] theorem setDrawer_cluster : (s.setDrawer x).cluster = s.cluster := rfl
@[simp] theorem setDrawer_scale : (s.setDrawer x).scale = s.scale := rfl
@[simp] theorem setDrawer_capture : (s.setDrawer x).capture = s.capture := rfl
@[simp] theorem setDrawer_bagging : (s.setDrawer x).bagging = s.bagging := rfl
@[simp] theorem setDrawer_card : (s.setDrawer x).card = s.card := rfl
@[simp] theorem setDrawer_authority : (s.setDrawer x).authority = s.authority := rfl
@[simp] theorem setDrawer_sense : (s.setDrawer x).sense = s.sense := rfl
@[simp] theorem setDrawer_drawer : (s.setDrawer x).drawer = x := rfl
@[simp] theorem setDrawer_tone : (s.setDrawer x).tone = s.tone := rfl
@[simp] theorem setDrawer_engine : (s.setDrawer x).engine = s.engine := rfl
@[simp] theorem setDrawer_composer : (s.setDrawer x).composer = s.composer := rfl
@[simp] theorem setDrawer_journal : (s.setDrawer x).journal = s.journal := rfl
@[simp] theorem setDrawer_fresh : (s.setDrawer x).fresh = s.fresh := rfl
@[simp] theorem setDrawer_pending : (s.setDrawer x).pending = s.pending := rfl

end drawer

section tone
variable (s : State) (x : Option Playing)

@[simp] theorem setTone_link : (s.setTone x).link = s.link := rfl
@[simp] theorem setTone_sale : (s.setTone x).sale = s.sale := rfl
@[simp] theorem setTone_cluster : (s.setTone x).cluster = s.cluster := rfl
@[simp] theorem setTone_scale : (s.setTone x).scale = s.scale := rfl
@[simp] theorem setTone_capture : (s.setTone x).capture = s.capture := rfl
@[simp] theorem setTone_bagging : (s.setTone x).bagging = s.bagging := rfl
@[simp] theorem setTone_card : (s.setTone x).card = s.card := rfl
@[simp] theorem setTone_authority : (s.setTone x).authority = s.authority := rfl
@[simp] theorem setTone_sense : (s.setTone x).sense = s.sense := rfl
@[simp] theorem setTone_drawer : (s.setTone x).drawer = s.drawer := rfl
@[simp] theorem setTone_tone : (s.setTone x).tone = x := rfl
@[simp] theorem setTone_engine : (s.setTone x).engine = s.engine := rfl
@[simp] theorem setTone_composer : (s.setTone x).composer = s.composer := rfl
@[simp] theorem setTone_journal : (s.setTone x).journal = s.journal := rfl
@[simp] theorem setTone_fresh : (s.setTone x).fresh = s.fresh := rfl
@[simp] theorem setTone_pending : (s.setTone x).pending = s.pending := rfl

end tone

section engine
variable (s : State) (x : Engine)

@[simp] theorem setEngine_link : (s.setEngine x).link = s.link := rfl
@[simp] theorem setEngine_sale : (s.setEngine x).sale = s.sale := rfl
@[simp] theorem setEngine_cluster : (s.setEngine x).cluster = s.cluster := rfl
@[simp] theorem setEngine_scale : (s.setEngine x).scale = s.scale := rfl
@[simp] theorem setEngine_capture : (s.setEngine x).capture = s.capture := rfl
@[simp] theorem setEngine_bagging : (s.setEngine x).bagging = s.bagging := rfl
@[simp] theorem setEngine_card : (s.setEngine x).card = s.card := rfl
@[simp] theorem setEngine_authority : (s.setEngine x).authority = s.authority := rfl
@[simp] theorem setEngine_sense : (s.setEngine x).sense = s.sense := rfl
@[simp] theorem setEngine_drawer : (s.setEngine x).drawer = s.drawer := rfl
@[simp] theorem setEngine_tone : (s.setEngine x).tone = s.tone := rfl
@[simp] theorem setEngine_engine : (s.setEngine x).engine = x := rfl
@[simp] theorem setEngine_composer : (s.setEngine x).composer = s.composer := rfl
@[simp] theorem setEngine_journal : (s.setEngine x).journal = s.journal := rfl
@[simp] theorem setEngine_fresh : (s.setEngine x).fresh = s.fresh := rfl
@[simp] theorem setEngine_pending : (s.setEngine x).pending = s.pending := rfl

end engine

section composer
variable (s : State) (x : Composer)

@[simp] theorem setComposer_link : (s.setComposer x).link = s.link := rfl
@[simp] theorem setComposer_sale : (s.setComposer x).sale = s.sale := rfl
@[simp] theorem setComposer_cluster : (s.setComposer x).cluster = s.cluster := rfl
@[simp] theorem setComposer_scale : (s.setComposer x).scale = s.scale := rfl
@[simp] theorem setComposer_capture : (s.setComposer x).capture = s.capture := rfl
@[simp] theorem setComposer_bagging : (s.setComposer x).bagging = s.bagging := rfl
@[simp] theorem setComposer_card : (s.setComposer x).card = s.card := rfl
@[simp] theorem setComposer_authority : (s.setComposer x).authority = s.authority := rfl
@[simp] theorem setComposer_sense : (s.setComposer x).sense = s.sense := rfl
@[simp] theorem setComposer_drawer : (s.setComposer x).drawer = s.drawer := rfl
@[simp] theorem setComposer_tone : (s.setComposer x).tone = s.tone := rfl
@[simp] theorem setComposer_engine : (s.setComposer x).engine = s.engine := rfl
@[simp] theorem setComposer_composer : (s.setComposer x).composer = x := rfl
@[simp] theorem setComposer_journal : (s.setComposer x).journal = s.journal := rfl
@[simp] theorem setComposer_fresh : (s.setComposer x).fresh = s.fresh := rfl
@[simp] theorem setComposer_pending : (s.setComposer x).pending = s.pending := rfl

end composer

section journal
variable (s : State) (x : Journal)

@[simp] theorem setJournal_link : (s.setJournal x).link = s.link := rfl
@[simp] theorem setJournal_sale : (s.setJournal x).sale = s.sale := rfl
@[simp] theorem setJournal_cluster : (s.setJournal x).cluster = s.cluster := rfl
@[simp] theorem setJournal_scale : (s.setJournal x).scale = s.scale := rfl
@[simp] theorem setJournal_capture : (s.setJournal x).capture = s.capture := rfl
@[simp] theorem setJournal_bagging : (s.setJournal x).bagging = s.bagging := rfl
@[simp] theorem setJournal_card : (s.setJournal x).card = s.card := rfl
@[simp] theorem setJournal_authority : (s.setJournal x).authority = s.authority := rfl
@[simp] theorem setJournal_sense : (s.setJournal x).sense = s.sense := rfl
@[simp] theorem setJournal_drawer : (s.setJournal x).drawer = s.drawer := rfl
@[simp] theorem setJournal_tone : (s.setJournal x).tone = s.tone := rfl
@[simp] theorem setJournal_engine : (s.setJournal x).engine = s.engine := rfl
@[simp] theorem setJournal_composer : (s.setJournal x).composer = s.composer := rfl
@[simp] theorem setJournal_journal : (s.setJournal x).journal = x := rfl
@[simp] theorem setJournal_fresh : (s.setJournal x).fresh = s.fresh := rfl
@[simp] theorem setJournal_pending : (s.setJournal x).pending = s.pending := rfl

end journal

section fresh
variable (s : State) (x : Nat)

@[simp] theorem setFresh_link : (s.setFresh x).link = s.link := rfl
@[simp] theorem setFresh_sale : (s.setFresh x).sale = s.sale := rfl
@[simp] theorem setFresh_cluster : (s.setFresh x).cluster = s.cluster := rfl
@[simp] theorem setFresh_scale : (s.setFresh x).scale = s.scale := rfl
@[simp] theorem setFresh_capture : (s.setFresh x).capture = s.capture := rfl
@[simp] theorem setFresh_bagging : (s.setFresh x).bagging = s.bagging := rfl
@[simp] theorem setFresh_card : (s.setFresh x).card = s.card := rfl
@[simp] theorem setFresh_authority : (s.setFresh x).authority = s.authority := rfl
@[simp] theorem setFresh_sense : (s.setFresh x).sense = s.sense := rfl
@[simp] theorem setFresh_drawer : (s.setFresh x).drawer = s.drawer := rfl
@[simp] theorem setFresh_tone : (s.setFresh x).tone = s.tone := rfl
@[simp] theorem setFresh_engine : (s.setFresh x).engine = s.engine := rfl
@[simp] theorem setFresh_composer : (s.setFresh x).composer = s.composer := rfl
@[simp] theorem setFresh_journal : (s.setFresh x).journal = s.journal := rfl
@[simp] theorem setFresh_fresh : (s.setFresh x).fresh = x := rfl
@[simp] theorem setFresh_pending : (s.setFresh x).pending = s.pending := rfl

end fresh

section pending
variable (s : State) (x : List Instr)

@[simp] theorem setPending_link : (s.setPending x).link = s.link := rfl
@[simp] theorem setPending_sale : (s.setPending x).sale = s.sale := rfl
@[simp] theorem setPending_cluster : (s.setPending x).cluster = s.cluster := rfl
@[simp] theorem setPending_scale : (s.setPending x).scale = s.scale := rfl
@[simp] theorem setPending_capture : (s.setPending x).capture = s.capture := rfl
@[simp] theorem setPending_bagging : (s.setPending x).bagging = s.bagging := rfl
@[simp] theorem setPending_card : (s.setPending x).card = s.card := rfl
@[simp] theorem setPending_authority : (s.setPending x).authority = s.authority := rfl
@[simp] theorem setPending_sense : (s.setPending x).sense = s.sense := rfl
@[simp] theorem setPending_drawer : (s.setPending x).drawer = s.drawer := rfl
@[simp] theorem setPending_tone : (s.setPending x).tone = s.tone := rfl
@[simp] theorem setPending_engine : (s.setPending x).engine = s.engine := rfl
@[simp] theorem setPending_composer : (s.setPending x).composer = s.composer := rfl
@[simp] theorem setPending_journal : (s.setPending x).journal = s.journal := rfl
@[simp] theorem setPending_fresh : (s.setPending x).fresh = s.fresh := rfl
@[simp] theorem setPending_pending : (s.setPending x).pending = x := rfl

end pending

end Sys2Proof.Machine
end

