-- ==== Sys2Proof/Laws/Ops.lean ====
section
/-! SUPPORT. The frames of the operations that most rules share: which fields of State each leaves as they were, and what it does to the
field that it writes. -/

set_option Elab.async false

namespace Sys2Proof.Machine

/-! ### A notice placed writes the lane link only (R183) -/

@[simp] theorem notice_sale (s : State) (n : Notice) : (s.notice n).sale = s.sale := rfl
@[simp] theorem notice_cluster (s : State) (n : Notice) : (s.notice n).cluster = s.cluster := rfl
@[simp] theorem notice_scale (s : State) (n : Notice) : (s.notice n).scale = s.scale := rfl
@[simp] theorem notice_capture (s : State) (n : Notice) : (s.notice n).capture = s.capture := rfl
@[simp] theorem notice_bagging (s : State) (n : Notice) : (s.notice n).bagging = s.bagging := rfl
@[simp] theorem notice_card (s : State) (n : Notice) : (s.notice n).card = s.card := rfl
@[simp] theorem notice_authority (s : State) (n : Notice) : (s.notice n).authority = s.authority := rfl
@[simp] theorem notice_sense (s : State) (n : Notice) : (s.notice n).sense = s.sense := rfl
@[simp] theorem notice_drawer (s : State) (n : Notice) : (s.notice n).drawer = s.drawer := rfl
@[simp] theorem notice_tone (s : State) (n : Notice) : (s.notice n).tone = s.tone := rfl
@[simp] theorem notice_engine (s : State) (n : Notice) : (s.notice n).engine = s.engine := rfl
@[simp] theorem notice_composer (s : State) (n : Notice) : (s.notice n).composer = s.composer := rfl
@[simp] theorem notice_journal (s : State) (n : Notice) : (s.notice n).journal = s.journal := rfl
@[simp] theorem notice_fresh (s : State) (n : Notice) : (s.notice n).fresh = s.fresh := rfl
@[simp] theorem notice_pending (s : State) (n : Notice) : (s.notice n).pending = s.pending := rfl

theorem notice_link (s : State) (n : Notice) : (s.notice n).link = s.link.place n := rfl

/-! ### A reply formed writes the lane link only (R182) -/

@[simp] theorem reply_sale (s : State) (k t : Byte) (b : ReplyBody) : (s.reply k t b).sale = s.sale := rfl
@[simp] theorem reply_cluster (s : State) (k t : Byte) (b : ReplyBody) : (s.reply k t b).cluster = s.cluster := rfl
@[simp] theorem reply_scale (s : State) (k t : Byte) (b : ReplyBody) : (s.reply k t b).scale = s.scale := rfl
@[simp] theorem reply_capture (s : State) (k t : Byte) (b : ReplyBody) : (s.reply k t b).capture = s.capture := rfl
@[simp] theorem reply_bagging (s : State) (k t : Byte) (b : ReplyBody) : (s.reply k t b).bagging = s.bagging := rfl
@[simp] theorem reply_card (s : State) (k t : Byte) (b : ReplyBody) : (s.reply k t b).card = s.card := rfl
@[simp] theorem reply_authority (s : State) (k t : Byte) (b : ReplyBody) : (s.reply k t b).authority = s.authority := rfl
@[simp] theorem reply_sense (s : State) (k t : Byte) (b : ReplyBody) : (s.reply k t b).sense = s.sense := rfl
@[simp] theorem reply_drawer (s : State) (k t : Byte) (b : ReplyBody) : (s.reply k t b).drawer = s.drawer := rfl
@[simp] theorem reply_tone (s : State) (k t : Byte) (b : ReplyBody) : (s.reply k t b).tone = s.tone := rfl
@[simp] theorem reply_engine (s : State) (k t : Byte) (b : ReplyBody) : (s.reply k t b).engine = s.engine := rfl
@[simp] theorem reply_composer (s : State) (k t : Byte) (b : ReplyBody) : (s.reply k t b).composer = s.composer := rfl
@[simp] theorem reply_journal (s : State) (k t : Byte) (b : ReplyBody) : (s.reply k t b).journal = s.journal := rfl
@[simp] theorem reply_fresh (s : State) (k t : Byte) (b : ReplyBody) : (s.reply k t b).fresh = s.fresh := rfl
@[simp] theorem reply_pending (s : State) (k t : Byte) (b : ReplyBody) : (s.reply k t b).pending = s.pending := rfl

theorem reply_link (s : State) (k t : Byte) (b : ReplyBody) :
    (s.reply k t b).link = { s.link with replies := s.link.replies ++ [{ kind := k, tag := t, body := b }] } := rfl

/-! ### The end of a step writes the lane link only (R183) -/

@[simp] theorem finish_sale (s : State) : (s.finish).sale = s.sale := rfl
@[simp] theorem finish_cluster (s : State) : (s.finish).cluster = s.cluster := rfl
@[simp] theorem finish_scale (s : State) : (s.finish).scale = s.scale := rfl
@[simp] theorem finish_capture (s : State) : (s.finish).capture = s.capture := rfl
@[simp] theorem finish_bagging (s : State) : (s.finish).bagging = s.bagging := rfl
@[simp] theorem finish_card (s : State) : (s.finish).card = s.card := rfl
@[simp] theorem finish_authority (s : State) : (s.finish).authority = s.authority := rfl
@[simp] theorem finish_sense (s : State) : (s.finish).sense = s.sense := rfl
@[simp] theorem finish_drawer (s : State) : (s.finish).drawer = s.drawer := rfl
@[simp] theorem finish_tone (s : State) : (s.finish).tone = s.tone := rfl
@[simp] theorem finish_engine (s : State) : (s.finish).engine = s.engine := rfl
@[simp] theorem finish_composer (s : State) : (s.finish).composer = s.composer := rfl
@[simp] theorem finish_journal (s : State) : (s.finish).journal = s.journal := rfl
@[simp] theorem finish_fresh (s : State) : (s.finish).fresh = s.fresh := rfl
@[simp] theorem finish_pending (s : State) : (s.finish).pending = s.pending := rfl

theorem finish_link (s : State) : s.finish.link = s.link.pump s.card.held := rfl

/-! ### A free value used up -/

@[simp] theorem useFresh_link (s : State) : (s.useFresh).link = s.link := rfl
@[simp] theorem useFresh_sale (s : State) : (s.useFresh).sale = s.sale := rfl
@[simp] theorem useFresh_cluster (s : State) : (s.useFresh).cluster = s.cluster := rfl
@[simp] theorem useFresh_scale (s : State) : (s.useFresh).scale = s.scale := rfl
@[simp] theorem useFresh_capture (s : State) : (s.useFresh).capture = s.capture := rfl
@[simp] theorem useFresh_bagging (s : State) : (s.useFresh).bagging = s.bagging := rfl
@[simp] theorem useFresh_card (s : State) : (s.useFresh).card = s.card := rfl
@[simp] theorem useFresh_authority (s : State) : (s.useFresh).authority = s.authority := rfl
@[simp] theorem useFresh_sense (s : State) : (s.useFresh).sense = s.sense := rfl
@[simp] theorem useFresh_drawer (s : State) : (s.useFresh).drawer = s.drawer := rfl
@[simp] theorem useFresh_tone (s : State) : (s.useFresh).tone = s.tone := rfl
@[simp] theorem useFresh_engine (s : State) : (s.useFresh).engine = s.engine := rfl
@[simp] theorem useFresh_composer (s : State) : (s.useFresh).composer = s.composer := rfl
@[simp] theorem useFresh_journal (s : State) : (s.useFresh).journal = s.journal := rfl
@[simp] theorem useFresh_pending (s : State) : (s.useFresh).pending = s.pending := rfl

/-! ### A temperature request writes the scale front end only (R71) -/

@[simp] theorem requestTemperature_link (s : State) : (s.requestTemperature).link = s.link := rfl
@[simp] theorem requestTemperature_sale (s : State) : (s.requestTemperature).sale = s.sale := rfl
@[simp] theorem requestTemperature_cluster (s : State) : (s.requestTemperature).cluster = s.cluster := rfl
@[simp] theorem requestTemperature_capture (s : State) : (s.requestTemperature).capture = s.capture := rfl
@[simp] theorem requestTemperature_bagging (s : State) : (s.requestTemperature).bagging = s.bagging := rfl
@[simp] theorem requestTemperature_card (s : State) : (s.requestTemperature).card = s.card := rfl
@[simp] theorem requestTemperature_authority (s : State) : (s.requestTemperature).authority = s.authority := rfl
@[simp] theorem requestTemperature_sense (s : State) : (s.requestTemperature).sense = s.sense := rfl
@[simp] theorem requestTemperature_drawer (s : State) : (s.requestTemperature).drawer = s.drawer := rfl
@[simp] theorem requestTemperature_tone (s : State) : (s.requestTemperature).tone = s.tone := rfl
@[simp] theorem requestTemperature_engine (s : State) : (s.requestTemperature).engine = s.engine := rfl
@[simp] theorem requestTemperature_composer (s : State) : (s.requestTemperature).composer = s.composer := rfl
@[simp] theorem requestTemperature_journal (s : State) : (s.requestTemperature).journal = s.journal := rfl
@[simp] theorem requestTemperature_fresh (s : State) : (s.requestTemperature).fresh = s.fresh := rfl
@[simp] theorem requestTemperature_pending (s : State) : (s.requestTemperature).pending = s.pending := rfl

/-! ### A tone request writes the tone unit only (R136) -/

@[simp] theorem requestTone_link (s : State) (t : ToneName) (src : ToneSource) : (s.requestTone t src).link = s.link := by unfold State.requestTone; split <;> rfl
@[simp] theorem requestTone_sale (s : State) (t : ToneName) (src : ToneSource) : (s.requestTone t src).sale = s.sale := by unfold State.requestTone; split <;> rfl
@[simp] theorem requestTone_cluster (s : State) (t : ToneName) (src : ToneSource) : (s.requestTone t src).cluster = s.cluster := by unfold State.requestTone; split <;> rfl
@[simp] theorem requestTone_scale (s : State) (t : ToneName) (src : ToneSource) : (s.requestTone t src).scale = s.scale := by unfold State.requestTone; split <;> rfl
@[simp] theorem requestTone_capture (s : State) (t : ToneName) (src : ToneSource) : (s.requestTone t src).capture = s.capture := by unfold State.requestTone; split <;> rfl
@[simp] theorem requestTone_bagging (s : State) (t : ToneName) (src : ToneSource) : (s.requestTone t src).bagging = s.bagging := by unfold State.requestTone; split <;> rfl
@[simp] theorem requestTone_card (s : State) (t : ToneName) (src : ToneSource) : (s.requestTone t src).card = s.card := by unfold State.requestTone; split <;> rfl
@[simp] theorem requestTone_authority (s : State) (t : ToneName) (src : ToneSource) : (s.requestTone t src).authority = s.authority := by unfold State.requestTone; split <;> rfl
@[simp] theorem requestTone_sense (s : State) (t : ToneName) (src : ToneSource) : (s.requestTone t src).sense = s.sense := by unfold State.requestTone; split <;> rfl
@[simp] theorem requestTone_drawer (s : State) (t : ToneName) (src : ToneSource) : (s.requestTone t src).drawer = s.drawer := by unfold State.requestTone; split <;> rfl
@[simp] theorem requestTone_engine (s : State) (t : ToneName) (src : ToneSource) : (s.requestTone t src).engine = s.engine := by unfold State.requestTone; split <;> rfl
@[simp] theorem requestTone_composer (s : State) (t : ToneName) (src : ToneSource) : (s.requestTone t src).composer = s.composer := by unfold State.requestTone; split <;> rfl
@[simp] theorem requestTone_journal (s : State) (t : ToneName) (src : ToneSource) : (s.requestTone t src).journal = s.journal := by unfold State.requestTone; split <;> rfl
@[simp] theorem requestTone_fresh (s : State) (t : ToneName) (src : ToneSource) : (s.requestTone t src).fresh = s.fresh := by unfold State.requestTone; split <;> rfl
@[simp] theorem requestTone_pending (s : State) (t : ToneName) (src : ToneSource) : (s.requestTone t src).pending = s.pending := by unfold State.requestTone; split <;> rfl

/-! ### A stop of the drawer's ALARM writes the tone unit only (R136) -/

@[simp] theorem stopDrawerAlarm_link (s : State) : (s.stopDrawerAlarm).link = s.link := by unfold State.stopDrawerAlarm; split; split <;> rfl; rfl
@[simp] theorem stopDrawerAlarm_sale (s : State) : (s.stopDrawerAlarm).sale = s.sale := by unfold State.stopDrawerAlarm; split; split <;> rfl; rfl
@[simp] theorem stopDrawerAlarm_cluster (s : State) : (s.stopDrawerAlarm).cluster = s.cluster := by unfold State.stopDrawerAlarm; split; split <;> rfl; rfl
@[simp] theorem stopDrawerAlarm_scale (s : State) : (s.stopDrawerAlarm).scale = s.scale := by unfold State.stopDrawerAlarm; split; split <;> rfl; rfl
@[simp] theorem stopDrawerAlarm_capture (s : State) : (s.stopDrawerAlarm).capture = s.capture := by unfold State.stopDrawerAlarm; split; split <;> rfl; rfl
@[simp] theorem stopDrawerAlarm_bagging (s : State) : (s.stopDrawerAlarm).bagging = s.bagging := by unfold State.stopDrawerAlarm; split; split <;> rfl; rfl
@[simp] theorem stopDrawerAlarm_card (s : State) : (s.stopDrawerAlarm).card = s.card := by unfold State.stopDrawerAlarm; split; split <;> rfl; rfl
@[simp] theorem stopDrawerAlarm_authority (s : State) : (s.stopDrawerAlarm).authority = s.authority := by unfold State.stopDrawerAlarm; split; split <;> rfl; rfl
@[simp] theorem stopDrawerAlarm_sense (s : State) : (s.stopDrawerAlarm).sense = s.sense := by unfold State.stopDrawerAlarm; split; split <;> rfl; rfl
@[simp] theorem stopDrawerAlarm_drawer (s : State) : (s.stopDrawerAlarm).drawer = s.drawer := by unfold State.stopDrawerAlarm; split; split <;> rfl; rfl
@[simp] theorem stopDrawerAlarm_engine (s : State) : (s.stopDrawerAlarm).engine = s.engine := by unfold State.stopDrawerAlarm; split; split <;> rfl; rfl
@[simp] theorem stopDrawerAlarm_composer (s : State) : (s.stopDrawerAlarm).composer = s.composer := by unfold State.stopDrawerAlarm; split; split <;> rfl; rfl
@[simp] theorem stopDrawerAlarm_journal (s : State) : (s.stopDrawerAlarm).journal = s.journal := by unfold State.stopDrawerAlarm; split; split <;> rfl; rfl
@[simp] theorem stopDrawerAlarm_fresh (s : State) : (s.stopDrawerAlarm).fresh = s.fresh := by unfold State.stopDrawerAlarm; split; split <;> rfl; rfl
@[simp] theorem stopDrawerAlarm_pending (s : State) : (s.stopDrawerAlarm).pending = s.pending := by unfold State.stopDrawerAlarm; split; split <;> rfl; rfl

/-! ### A change of the cluster unit writes it and the lane link only (R67) -/

@[simp] theorem updateCluster_sale (s : State) (c : Cluster) : (s.updateCluster c).sale = s.sale := by unfold State.updateCluster; split <;> rfl
@[simp] theorem updateCluster_scale (s : State) (c : Cluster) : (s.updateCluster c).scale = s.scale := by unfold State.updateCluster; split <;> rfl
@[simp] theorem updateCluster_capture (s : State) (c : Cluster) : (s.updateCluster c).capture = s.capture := by unfold State.updateCluster; split <;> rfl
@[simp] theorem updateCluster_bagging (s : State) (c : Cluster) : (s.updateCluster c).bagging = s.bagging := by unfold State.updateCluster; split <;> rfl
@[simp] theorem updateCluster_card (s : State) (c : Cluster) : (s.updateCluster c).card = s.card := by unfold State.updateCluster; split <;> rfl
@[simp] theorem updateCluster_authority (s : State) (c : Cluster) : (s.updateCluster c).authority = s.authority := by unfold State.updateCluster; split <;> rfl
@[simp] theorem updateCluster_sense (s : State) (c : Cluster) : (s.updateCluster c).sense = s.sense := by unfold State.updateCluster; split <;> rfl
@[simp] theorem updateCluster_drawer (s : State) (c : Cluster) : (s.updateCluster c).drawer = s.drawer := by unfold State.updateCluster; split <;> rfl
@[simp] theorem updateCluster_tone (s : State) (c : Cluster) : (s.updateCluster c).tone = s.tone := by unfold State.updateCluster; split <;> rfl
@[simp] theorem updateCluster_engine (s : State) (c : Cluster) : (s.updateCluster c).engine = s.engine := by unfold State.updateCluster; split <;> rfl
@[simp] theorem updateCluster_composer (s : State) (c : Cluster) : (s.updateCluster c).composer = s.composer := by unfold State.updateCluster; split <;> rfl
@[simp] theorem updateCluster_journal (s : State) (c : Cluster) : (s.updateCluster c).journal = s.journal := by unfold State.updateCluster; split <;> rfl
@[simp] theorem updateCluster_fresh (s : State) (c : Cluster) : (s.updateCluster c).fresh = s.fresh := by unfold State.updateCluster; split <;> rfl
@[simp] theorem updateCluster_pending (s : State) (c : Cluster) : (s.updateCluster c).pending = s.pending := by unfold State.updateCluster; split <;> rfl

/-! ### A change of the own wanted set writes the cluster unit and the lane link only (R64) -/

@[simp] theorem setWanted_sale (s : State) (r : Reasons) : (s.setWanted r).sale = s.sale := by unfold State.setWanted; split <;> simp
@[simp] theorem setWanted_scale (s : State) (r : Reasons) : (s.setWanted r).scale = s.scale := by unfold State.setWanted; split <;> simp
@[simp] theorem setWanted_capture (s : State) (r : Reasons) : (s.setWanted r).capture = s.capture := by unfold State.setWanted; split <;> simp
@[simp] theorem setWanted_bagging (s : State) (r : Reasons) : (s.setWanted r).bagging = s.bagging := by unfold State.setWanted; split <;> simp
@[simp] theorem setWanted_card (s : State) (r : Reasons) : (s.setWanted r).card = s.card := by unfold State.setWanted; split <;> simp
@[simp] theorem setWanted_authority (s : State) (r : Reasons) : (s.setWanted r).authority = s.authority := by unfold State.setWanted; split <;> simp
@[simp] theorem setWanted_sense (s : State) (r : Reasons) : (s.setWanted r).sense = s.sense := by unfold State.setWanted; split <;> simp
@[simp] theorem setWanted_drawer (s : State) (r : Reasons) : (s.setWanted r).drawer = s.drawer := by unfold State.setWanted; split <;> simp
@[simp] theorem setWanted_tone (s : State) (r : Reasons) : (s.setWanted r).tone = s.tone := by unfold State.setWanted; split <;> simp
@[simp] theorem setWanted_engine (s : State) (r : Reasons) : (s.setWanted r).engine = s.engine := by unfold State.setWanted; split <;> simp
@[simp] theorem setWanted_composer (s : State) (r : Reasons) : (s.setWanted r).composer = s.composer := by unfold State.setWanted; split <;> simp
@[simp] theorem setWanted_journal (s : State) (r : Reasons) : (s.setWanted r).journal = s.journal := by unfold State.setWanted; split <;> simp
@[simp] theorem setWanted_fresh (s : State) (r : Reasons) : (s.setWanted r).fresh = s.fresh := by unfold State.setWanted; split <;> simp
@[simp] theorem setWanted_pending (s : State) (r : Reasons) : (s.setWanted r).pending = s.pending := by unfold State.setWanted; split <;> simp

/-! ### A reason raised (R64) -/

@[simp] theorem raise_sale (s : State) (r : CallReason) : (s.raise r).sale = s.sale := by simp [State.raise]
@[simp] theorem raise_scale (s : State) (r : CallReason) : (s.raise r).scale = s.scale := by simp [State.raise]
@[simp] theorem raise_capture (s : State) (r : CallReason) : (s.raise r).capture = s.capture := by simp [State.raise]
@[simp] theorem raise_bagging (s : State) (r : CallReason) : (s.raise r).bagging = s.bagging := by simp [State.raise]
@[simp] theorem raise_card (s : State) (r : CallReason) : (s.raise r).card = s.card := by simp [State.raise]
@[simp] theorem raise_authority (s : State) (r : CallReason) : (s.raise r).authority = s.authority := by simp [State.raise]
@[simp] theorem raise_sense (s : State) (r : CallReason) : (s.raise r).sense = s.sense := by simp [State.raise]
@[simp] theorem raise_drawer (s : State) (r : CallReason) : (s.raise r).drawer = s.drawer := by simp [State.raise]
@[simp] theorem raise_tone (s : State) (r : CallReason) : (s.raise r).tone = s.tone := by simp [State.raise]
@[simp] theorem raise_engine (s : State) (r : CallReason) : (s.raise r).engine = s.engine := by simp [State.raise]
@[simp] theorem raise_composer (s : State) (r : CallReason) : (s.raise r).composer = s.composer := by simp [State.raise]
@[simp] theorem raise_journal (s : State) (r : CallReason) : (s.raise r).journal = s.journal := by simp [State.raise]
@[simp] theorem raise_fresh (s : State) (r : CallReason) : (s.raise r).fresh = s.fresh := by simp [State.raise]
@[simp] theorem raise_pending (s : State) (r : CallReason) : (s.raise r).pending = s.pending := by simp [State.raise]

/-! ### A reason withdrawn (R64) -/

@[simp] theorem withdraw_sale (s : State) (r : CallReason) : (s.withdraw r).sale = s.sale := by simp [State.withdraw]
@[simp] theorem withdraw_scale (s : State) (r : CallReason) : (s.withdraw r).scale = s.scale := by simp [State.withdraw]
@[simp] theorem withdraw_capture (s : State) (r : CallReason) : (s.withdraw r).capture = s.capture := by simp [State.withdraw]
@[simp] theorem withdraw_bagging (s : State) (r : CallReason) : (s.withdraw r).bagging = s.bagging := by simp [State.withdraw]
@[simp] theorem withdraw_card (s : State) (r : CallReason) : (s.withdraw r).card = s.card := by simp [State.withdraw]
@[simp] theorem withdraw_authority (s : State) (r : CallReason) : (s.withdraw r).authority = s.authority := by simp [State.withdraw]
@[simp] theorem withdraw_sense (s : State) (r : CallReason) : (s.withdraw r).sense = s.sense := by simp [State.withdraw]
@[simp] theorem withdraw_drawer (s : State) (r : CallReason) : (s.withdraw r).drawer = s.drawer := by simp [State.withdraw]
@[simp] theorem withdraw_tone (s : State) (r : CallReason) : (s.withdraw r).tone = s.tone := by simp [State.withdraw]
@[simp] theorem withdraw_engine (s : State) (r : CallReason) : (s.withdraw r).engine = s.engine := by simp [State.withdraw]
@[simp] theorem withdraw_composer (s : State) (r : CallReason) : (s.withdraw r).composer = s.composer := by simp [State.withdraw]
@[simp] theorem withdraw_journal (s : State) (r : CallReason) : (s.withdraw r).journal = s.journal := by simp [State.withdraw]
@[simp] theorem withdraw_fresh (s : State) (r : CallReason) : (s.withdraw r).fresh = s.fresh := by simp [State.withdraw]
@[simp] theorem withdraw_pending (s : State) (r : CallReason) : (s.withdraw r).pending = s.pending := by simp [State.withdraw]

/-! ### A capture ended writes the capture unit, the sale's reservation and the lane link only (R90) -/

@[simp] theorem endCapture_cluster (s : State) (x : CaptureOutcome) : (s.endCapture x).cluster = s.cluster := by unfold State.endCapture; split <;> simp
@[simp] theorem endCapture_scale (s : State) (x : CaptureOutcome) : (s.endCapture x).scale = s.scale := by unfold State.endCapture; split <;> simp
@[simp] theorem endCapture_bagging (s : State) (x : CaptureOutcome) : (s.endCapture x).bagging = s.bagging := by unfold State.endCapture; split <;> simp
@[simp] theorem endCapture_card (s : State) (x : CaptureOutcome) : (s.endCapture x).card = s.card := by unfold State.endCapture; split <;> simp
@[simp] theorem endCapture_authority (s : State) (x : CaptureOutcome) : (s.endCapture x).authority = s.authority := by unfold State.endCapture; split <;> simp
@[simp] theorem endCapture_sense (s : State) (x : CaptureOutcome) : (s.endCapture x).sense = s.sense := by unfold State.endCapture; split <;> simp
@[simp] theorem endCapture_drawer (s : State) (x : CaptureOutcome) : (s.endCapture x).drawer = s.drawer := by unfold State.endCapture; split <;> simp
@[simp] theorem endCapture_tone (s : State) (x : CaptureOutcome) : (s.endCapture x).tone = s.tone := by unfold State.endCapture; split <;> simp
@[simp] theorem endCapture_engine (s : State) (x : CaptureOutcome) : (s.endCapture x).engine = s.engine := by unfold State.endCapture; split <;> simp
@[simp] theorem endCapture_composer (s : State) (x : CaptureOutcome) : (s.endCapture x).composer = s.composer := by unfold State.endCapture; split <;> simp
@[simp] theorem endCapture_journal (s : State) (x : CaptureOutcome) : (s.endCapture x).journal = s.journal := by unfold State.endCapture; split <;> simp
@[simp] theorem endCapture_fresh (s : State) (x : CaptureOutcome) : (s.endCapture x).fresh = s.fresh := by unfold State.endCapture; split <;> simp
@[simp] theorem endCapture_pending (s : State) (x : CaptureOutcome) : (s.endCapture x).pending = s.pending := by unfold State.endCapture; split <;> simp

/-! ### A wiped record writes the card decoder only (R116) -/

@[simp] theorem wipeHeld_link (s : State) : (s.wipeHeld).link = s.link := rfl
@[simp] theorem wipeHeld_sale (s : State) : (s.wipeHeld).sale = s.sale := rfl
@[simp] theorem wipeHeld_cluster (s : State) : (s.wipeHeld).cluster = s.cluster := rfl
@[simp] theorem wipeHeld_scale (s : State) : (s.wipeHeld).scale = s.scale := rfl
@[simp] theorem wipeHeld_capture (s : State) : (s.wipeHeld).capture = s.capture := rfl
@[simp] theorem wipeHeld_bagging (s : State) : (s.wipeHeld).bagging = s.bagging := rfl
@[simp] theorem wipeHeld_authority (s : State) : (s.wipeHeld).authority = s.authority := rfl
@[simp] theorem wipeHeld_sense (s : State) : (s.wipeHeld).sense = s.sense := rfl
@[simp] theorem wipeHeld_drawer (s : State) : (s.wipeHeld).drawer = s.drawer := rfl
@[simp] theorem wipeHeld_tone (s : State) : (s.wipeHeld).tone = s.tone := rfl
@[simp] theorem wipeHeld_engine (s : State) : (s.wipeHeld).engine = s.engine := rfl
@[simp] theorem wipeHeld_composer (s : State) : (s.wipeHeld).composer = s.composer := rfl
@[simp] theorem wipeHeld_journal (s : State) : (s.wipeHeld).journal = s.journal := rfl
@[simp] theorem wipeHeld_fresh (s : State) : (s.wipeHeld).fresh = s.fresh := rfl
@[simp] theorem wipeHeld_pending (s : State) : (s.wipeHeld).pending = s.pending := rfl

/-! ### A change of authority writes the authority timer and the lane link only (R117) -/

@[simp] theorem putAuthority_sale (s : State) (a : Authority) : (s.putAuthority a).sale = s.sale := by unfold State.putAuthority; split <;> rfl
@[simp] theorem putAuthority_cluster (s : State) (a : Authority) : (s.putAuthority a).cluster = s.cluster := by unfold State.putAuthority; split <;> rfl
@[simp] theorem putAuthority_scale (s : State) (a : Authority) : (s.putAuthority a).scale = s.scale := by unfold State.putAuthority; split <;> rfl
@[simp] theorem putAuthority_capture (s : State) (a : Authority) : (s.putAuthority a).capture = s.capture := by unfold State.putAuthority; split <;> rfl
@[simp] theorem putAuthority_bagging (s : State) (a : Authority) : (s.putAuthority a).bagging = s.bagging := by unfold State.putAuthority; split <;> rfl
@[simp] theorem putAuthority_card (s : State) (a : Authority) : (s.putAuthority a).card = s.card := by unfold State.putAuthority; split <;> rfl
@[simp] theorem putAuthority_sense (s : State) (a : Authority) : (s.putAuthority a).sense = s.sense := by unfold State.putAuthority; split <;> rfl
@[simp] theorem putAuthority_drawer (s : State) (a : Authority) : (s.putAuthority a).drawer = s.drawer := by unfold State.putAuthority; split <;> rfl
@[simp] theorem putAuthority_tone (s : State) (a : Authority) : (s.putAuthority a).tone = s.tone := by unfold State.putAuthority; split <;> rfl
@[simp] theorem putAuthority_engine (s : State) (a : Authority) : (s.putAuthority a).engine = s.engine := by unfold State.putAuthority; split <;> rfl
@[simp] theorem putAuthority_composer (s : State) (a : Authority) : (s.putAuthority a).composer = s.composer := by unfold State.putAuthority; split <;> rfl
@[simp] theorem putAuthority_journal (s : State) (a : Authority) : (s.putAuthority a).journal = s.journal := by unfold State.putAuthority; split <;> rfl
@[simp] theorem putAuthority_fresh (s : State) (a : Authority) : (s.putAuthority a).fresh = s.fresh := by unfold State.putAuthority; split <;> rfl
@[simp] theorem putAuthority_pending (s : State) (a : Authority) : (s.putAuthority a).pending = s.pending := by unfold State.putAuthority; split <;> rfl

/-! ### A change of the drawer record writes it and the lane link only (R133) -/

@[simp] theorem putDrawer_sale (s : State) (d : Drawer) (h : Bool) : (s.putDrawer d h).sale = s.sale := by unfold State.putDrawer; dsimp only; split <;> simp
@[simp] theorem putDrawer_cluster (s : State) (d : Drawer) (h : Bool) : (s.putDrawer d h).cluster = s.cluster := by unfold State.putDrawer; dsimp only; split <;> simp
@[simp] theorem putDrawer_scale (s : State) (d : Drawer) (h : Bool) : (s.putDrawer d h).scale = s.scale := by unfold State.putDrawer; dsimp only; split <;> simp
@[simp] theorem putDrawer_capture (s : State) (d : Drawer) (h : Bool) : (s.putDrawer d h).capture = s.capture := by unfold State.putDrawer; dsimp only; split <;> simp
@[simp] theorem putDrawer_bagging (s : State) (d : Drawer) (h : Bool) : (s.putDrawer d h).bagging = s.bagging := by unfold State.putDrawer; dsimp only; split <;> simp
@[simp] theorem putDrawer_card (s : State) (d : Drawer) (h : Bool) : (s.putDrawer d h).card = s.card := by unfold State.putDrawer; dsimp only; split <;> simp
@[simp] theorem putDrawer_authority (s : State) (d : Drawer) (h : Bool) : (s.putDrawer d h).authority = s.authority := by unfold State.putDrawer; dsimp only; split <;> simp
@[simp] theorem putDrawer_sense (s : State) (d : Drawer) (h : Bool) : (s.putDrawer d h).sense = s.sense := by unfold State.putDrawer; dsimp only; split <;> simp
@[simp] theorem putDrawer_tone (s : State) (d : Drawer) (h : Bool) : (s.putDrawer d h).tone = s.tone := by unfold State.putDrawer; dsimp only; split <;> simp
@[simp] theorem putDrawer_engine (s : State) (d : Drawer) (h : Bool) : (s.putDrawer d h).engine = s.engine := by unfold State.putDrawer; dsimp only; split <;> simp
@[simp] theorem putDrawer_composer (s : State) (d : Drawer) (h : Bool) : (s.putDrawer d h).composer = s.composer := by unfold State.putDrawer; dsimp only; split <;> simp
@[simp] theorem putDrawer_journal (s : State) (d : Drawer) (h : Bool) : (s.putDrawer d h).journal = s.journal := by unfold State.putDrawer; dsimp only; split <;> simp
@[simp] theorem putDrawer_fresh (s : State) (d : Drawer) (h : Bool) : (s.putDrawer d h).fresh = s.fresh := by unfold State.putDrawer; dsimp only; split <;> simp
@[simp] theorem putDrawer_pending (s : State) (d : Drawer) (h : Bool) : (s.putDrawer d h).pending = s.pending := by unfold State.putDrawer; dsimp only; split <;> simp

/-! ### A change of the engine record writes it and the lane link only (R153) -/

@[simp] theorem putEngine_sale (s : State) (e : Engine) (x : Option JobOutcome) : (s.putEngine e x).sale = s.sale := by unfold State.putEngine; dsimp only; split <;> simp
@[simp] theorem putEngine_cluster (s : State) (e : Engine) (x : Option JobOutcome) : (s.putEngine e x).cluster = s.cluster := by unfold State.putEngine; dsimp only; split <;> simp
@[simp] theorem putEngine_scale (s : State) (e : Engine) (x : Option JobOutcome) : (s.putEngine e x).scale = s.scale := by unfold State.putEngine; dsimp only; split <;> simp
@[simp] theorem putEngine_capture (s : State) (e : Engine) (x : Option JobOutcome) : (s.putEngine e x).capture = s.capture := by unfold State.putEngine; dsimp only; split <;> simp
@[simp] theorem putEngine_bagging (s : State) (e : Engine) (x : Option JobOutcome) : (s.putEngine e x).bagging = s.bagging := by unfold State.putEngine; dsimp only; split <;> simp
@[simp] theorem putEngine_card (s : State) (e : Engine) (x : Option JobOutcome) : (s.putEngine e x).card = s.card := by unfold State.putEngine; dsimp only; split <;> simp
@[simp] theorem putEngine_authority (s : State) (e : Engine) (x : Option JobOutcome) : (s.putEngine e x).authority = s.authority := by unfold State.putEngine; dsimp only; split <;> simp
@[simp] theorem putEngine_sense (s : State) (e : Engine) (x : Option JobOutcome) : (s.putEngine e x).sense = s.sense := by unfold State.putEngine; dsimp only; split <;> simp
@[simp] theorem putEngine_drawer (s : State) (e : Engine) (x : Option JobOutcome) : (s.putEngine e x).drawer = s.drawer := by unfold State.putEngine; dsimp only; split <;> simp
@[simp] theorem putEngine_tone (s : State) (e : Engine) (x : Option JobOutcome) : (s.putEngine e x).tone = s.tone := by unfold State.putEngine; dsimp only; split <;> simp
@[simp] theorem putEngine_composer (s : State) (e : Engine) (x : Option JobOutcome) : (s.putEngine e x).composer = s.composer := by unfold State.putEngine; dsimp only; split <;> simp
@[simp] theorem putEngine_journal (s : State) (e : Engine) (x : Option JobOutcome) : (s.putEngine e x).journal = s.journal := by unfold State.putEngine; dsimp only; split <;> simp
@[simp] theorem putEngine_fresh (s : State) (e : Engine) (x : Option JobOutcome) : (s.putEngine e x).fresh = s.fresh := by unfold State.putEngine; dsimp only; split <;> simp
@[simp] theorem putEngine_pending (s : State) (e : Engine) (x : Option JobOutcome) : (s.putEngine e x).pending = s.pending := by unfold State.putEngine; dsimp only; split <;> simp

/-! ### A discarded message writes the lane link only (R181) -/

@[simp] theorem discardMessage_sale (s : State) (e : LinkErrors) (n : Nat) : (s.discardMessage e n).sale = s.sale := rfl
@[simp] theorem discardMessage_cluster (s : State) (e : LinkErrors) (n : Nat) : (s.discardMessage e n).cluster = s.cluster := rfl
@[simp] theorem discardMessage_scale (s : State) (e : LinkErrors) (n : Nat) : (s.discardMessage e n).scale = s.scale := rfl
@[simp] theorem discardMessage_capture (s : State) (e : LinkErrors) (n : Nat) : (s.discardMessage e n).capture = s.capture := rfl
@[simp] theorem discardMessage_bagging (s : State) (e : LinkErrors) (n : Nat) : (s.discardMessage e n).bagging = s.bagging := rfl
@[simp] theorem discardMessage_card (s : State) (e : LinkErrors) (n : Nat) : (s.discardMessage e n).card = s.card := rfl
@[simp] theorem discardMessage_authority (s : State) (e : LinkErrors) (n : Nat) : (s.discardMessage e n).authority = s.authority := rfl
@[simp] theorem discardMessage_sense (s : State) (e : LinkErrors) (n : Nat) : (s.discardMessage e n).sense = s.sense := rfl
@[simp] theorem discardMessage_drawer (s : State) (e : LinkErrors) (n : Nat) : (s.discardMessage e n).drawer = s.drawer := rfl
@[simp] theorem discardMessage_tone (s : State) (e : LinkErrors) (n : Nat) : (s.discardMessage e n).tone = s.tone := rfl
@[simp] theorem discardMessage_engine (s : State) (e : LinkErrors) (n : Nat) : (s.discardMessage e n).engine = s.engine := rfl
@[simp] theorem discardMessage_composer (s : State) (e : LinkErrors) (n : Nat) : (s.discardMessage e n).composer = s.composer := rfl
@[simp] theorem discardMessage_journal (s : State) (e : LinkErrors) (n : Nat) : (s.discardMessage e n).journal = s.journal := rfl
@[simp] theorem discardMessage_fresh (s : State) (e : LinkErrors) (n : Nat) : (s.discardMessage e n).fresh = s.fresh := rfl
@[simp] theorem discardMessage_pending (s : State) (e : LinkErrors) (n : Nat) : (s.discardMessage e n).pending = s.pending := rfl

end Sys2Proof.Machine
end

