-- ==== Sys2Proof/Laws/Blocks.lean ====
section
/-! SUPPORT. For operations that several blocks share, one lemma each that says all that it can write: the array arbiter between two
operations, the composer's state, the copy source, the bus readings, and the counting of verdicts. -/

set_option Elab.async false

namespace Sys2Proof.Machine

/-! ### The array arbiter (R173, R174) -/

/-- What the arbiter grants changes the arbiter alone. -/
theorem arbitrate_eq (j : Journal) : ∃ a, j.arbitrate = { j with arbiter := a } := by
  unfold Journal.arbitrate
  repeat' split
  all_goals first | exact ⟨j.arbiter, rfl⟩ | exact ⟨_, rfl⟩

/-- An operation asked for changes the arbiter alone. -/
theorem ask_eq (j : Journal) (op : ArrayOp) : ∃ a, j.ask op = { j with arbiter := a } := by
  obtain ⟨b, hb⟩ := arbitrate_eq
    { j with arbiter := { j.arbiter.suspend with waiting := j.arbiter.suspend.waiting ++ [op] } }
  exact ⟨b, by rw [Journal.ask, hb]⟩

/-- Erase-ahead starting changes the arbiter alone. -/
theorem startEraseAhead_eq (s : State) : ∃ a, s.startEraseAhead = s.setJournal { s.journal with arbiter := a } := by
  unfold State.startEraseAhead
  split
  · exact ⟨_, rfl⟩
  · exact ⟨s.journal.arbiter, rfl⟩

/-- What comes of the array between two operations changes the arbiter alone. -/
theorem betweenOperations_eq (s : State) : ∃ a, s.betweenOperations = s.setJournal { s.journal with arbiter := a } := by
  obtain ⟨a, ha⟩ := arbitrate_eq s.journal
  obtain ⟨b, hb⟩ := startEraseAhead_eq (s.setJournal s.journal.arbitrate)
  exact ⟨b, by rw [State.betweenOperations, hb, ha]; rfl⟩

/-! ### The level (R176) -/

/-- The level judged writes blocked erase-ahead and the level of the journal, and leaves the sale, the engine, the composer, the drawer and the
queue of commands. -/
theorem judgeJournal_frame (s : State) :
    s.judgeJournal.journal = { s.journal with blocked := s.journal.targetBlocked, level := s.journal.judgedLevel s.sale } ∧
    s.judgeJournal.sale = s.sale ∧ s.judgeJournal.engine = s.engine ∧ s.judgeJournal.composer = s.composer ∧
    s.judgeJournal.drawer = s.drawer ∧ s.judgeJournal.pending = s.pending := by
  unfold State.judgeJournal
  dsimp only
  repeat' split
  all_goals simp

/-- A hand-over enters FULL, or leaves the state. -/
theorem enterFull_cases (s : State) :
    s.journal.stuck s.sale = false ∧ s.enterFull = s ∨ s.journal.stuck s.sale = true ∧ s.enterFull = s.judgeJournal := by
  unfold State.enterFull
  cases s.journal.stuck s.sale <;> simp

/-- A hand-over outside FAULT puts the append at the queue's tail and leaves the append in progress, the array and the sale. -/
theorem handOver_frame (s : State) (a : Append) (h : s.journal.level ≠ .fault) :
    (s.handOver a).journal.queue = s.journal.queue ++ [a] ∧ (s.handOver a).journal.taken = s.journal.taken ∧
    (s.handOver a).journal.array = s.journal.array ∧ (s.handOver a).sale = s.sale := by
  have f := judgeJournal_frame (s.setJournal { s.journal with queue := s.journal.queue ++ [a] })
  unfold State.handOver
  rw [if_neg h]
  rcases enterFull_cases (s.setJournal { s.journal with queue := s.journal.queue ++ [a] }) with ⟨_, e⟩ | ⟨_, e⟩
  · rw [e]
    exact ⟨rfl, rfl, rfl, rfl⟩
  · rw [e, f.1, f.2.1]
    exact ⟨rfl, rfl, rfl, rfl⟩

/-- The append taken is one that waits (R172). -/
theorem takeable_mem (j : Journal) (sale : Sale) (a : Append) (h : j.takeable sale = some a) : a ∈ j.queue := by
  unfold Journal.takeable at h
  split at h
  · rename_i b rest _ hq
    rw [hq]
    split at h
    · cases h
      exact List.mem_cons_self
    · split at h
      · exact List.mem_cons_of_mem _ (List.mem_of_find?_eq_some (Option.filter_eq_some_iff.mp h).1)
      · cases h
  · cases h

/-- A release request writes the outgoing list, its ages and the held requests alone (R41). -/
theorem requestRelease_eq (c : Cluster) (k : Consumer) :
    ∃ out age held, c.requestRelease k = { c with out := out, nextAge := age, heldRequests := held } := by
  unfold Cluster.requestRelease
  split
  · exact ⟨c.out, c.nextAge, _, rfl⟩
  · unfold Cluster.applyRelease Cluster.replaceOut Cluster.addOut
    dsimp only
    repeat' split
    all_goals exact ⟨_, _, c.heldRequests, rfl⟩

/-! ### The composer (R162) -/

/-- The footer reached changes the composer's state alone. -/
theorem footerReached_eq (s : State) : ∃ st, s.footerReached = s.setComposer { s.composer with state := st } := by
  unfold State.footerReached
  repeat' split
  all_goals first | exact ⟨s.composer.state, rfl⟩ | exact ⟨_, rfl⟩

/-- A read sought for a copy marks the copy as reading and changes the arbiter; nothing else. -/
theorem seekCopy_frame (s : State) :
    s.seekCopy.composer.queue = s.composer.queue ∧ s.seekCopy.composer.cursor = s.composer.cursor ∧
    s.seekCopy.composer.state = s.composer.state ∧ s.seekCopy.engine = s.engine ∧ s.seekCopy.sale = s.sale ∧
    s.seekCopy.cluster = s.cluster ∧ s.seekCopy.journal.array = s.journal.array := by
  unfold State.seekCopy
  split
  · exact ⟨rfl, rfl, rfl, rfl, rfl, rfl, rfl⟩
  · rename_i c _
    obtain ⟨b, hb⟩ := ask_eq s.journal (.read .copy (c.addr + c.bytes.length) c.readLength)
    split
    · exact ⟨rfl, rfl, rfl, rfl, rfl, rfl, by rw [hb]; rfl⟩
    · exact ⟨rfl, rfl, rfl, rfl, rfl, rfl, rfl⟩

/-- The verdict changes the composer's state alone. -/
theorem composerVerdict_eq (s : State) : ∃ st, s.composerVerdict = s.setComposer { s.composer with state := st } := by
  unfold State.composerVerdict
  split
  · exact ⟨_, rfl⟩
  · exact ⟨s.composer.state, rfl⟩

/-! ### Readings of a frame (R25, R30, R31) -/

@[simp] theorem violates_asSent : Reading.asSent.violates = false := rfl
@[simp] theorem differsAt_asSent (f : Frame) : Reading.asSent.differsAt f = none := rfl
@[simp] theorem losesArbitration_asSent (f : Frame) : Reading.asSent.losesArbitration f = false := rfl
@[simp] theorem ownGood_asSent (f : Frame) (p : Option Nat) : Reading.asSent.ownGood f p = true := by cases p <;> rfl

/-- A frame whose every slot is read as it is driven differs nowhere. -/
theorem firstDifference_self (l : List Bool) : firstDifference l l = none := by
  induction l with
  | nil => rfl
  | cons x xs ih => simp [firstDifference, ih]

/-! ### Verdicts and modes (R35, R36) -/

/-- A change of mode writes the mode, the counts, the failures and the notice queue. -/
theorem setMode_eq (s : State) (m : LineMode) (x : LineModeCause) :
    s.setMode m x = s ∨
      s.setMode m x = (s.setCluster { s.cluster with mode := m, fullCount := 0, backCount := 0, failures := [] }).notice
        (.lineMode s.cluster.mode m x) := by
  unfold State.setMode
  split
  · exact .inl rfl
  · exact .inr rfl

/-- Verdicts counted leave the tables, the queue, the outgoing list, the frame on the bus and the consumers. -/
theorem countVerdicts_frame (s : State) (v : Verdicts) :
    (s.countVerdicts v).cluster.peers = s.cluster.peers ∧ (s.countVerdicts v).cluster.queue = s.cluster.queue ∧
    (s.countVerdicts v).cluster.out = s.cluster.out ∧ (s.countVerdicts v).cluster.onBus = s.cluster.onBus ∧
    (s.countVerdicts v).cluster.printer = s.cluster.printer ∧ (s.countVerdicts v).cluster.drawer = s.cluster.drawer ∧
    (s.countVerdicts v).cluster.state = s.cluster.state ∧ (s.countVerdicts v).sale = s.sale := by
  unfold State.countVerdicts State.setMode
  dsimp only
  repeat' split
  all_goals exact ⟨rfl, rfl, rfl, rfl, rfl, rfl, rfl, rfl⟩

end Sys2Proof.Machine
end

