-- ==== Sys2Proof/Laws/Link.lean ====
section
/-! SUPPORT. The notice queue and the reply list (R182, R183): their lengths under the operations that write them. -/

set_option Elab.async false

namespace Sys2Proof.Machine

/-- A notice inserted makes the queue one longer. -/
theorem insertNotice_length (n : Notice) : ∀ q : List Notice, (insertNotice n q).length = q.length + 1
  | [] => rfl
  | m :: ms => by
    unfold insertNotice
    split
    · rfl
    · simp [insertNotice_length n ms]

/-- R183: placing a notice keeps the queue within 32. -/
theorem Link.place_notices_le (l : Link) (n : Notice) (h : l.notices.length ≤ 32) : (l.place n).notices.length ≤ 32 := by
  unfold Link.place
  split
  · simpa using h
  · split
    · exact h
    · simp only [insertNotice_length]; omega

/-- Placing a notice writes the queue and the LOST mark only. -/
theorem Link.place_eq (l : Link) (n : Notice) :
    l.place n = { l with notices := (l.place n).notices, lost := (l.place n).lost } := by
  unfold Link.place
  split
  · rfl
  · split <;> rfl

@[simp] theorem Link.place_places (l : Link) (n : Notice) : (l.place n).places = l.places := by
  rw [Link.place_eq]; rfl

@[simp] theorem Link.place_part (l : Link) (n : Notice) : (l.place n).part = l.part := by
  rw [Link.place_eq]

@[simp] theorem Link.place_replies (l : Link) (n : Notice) : (l.place n).replies = l.replies := by
  rw [Link.place_eq]

@[simp] theorem Link.place_reserved (l : Link) (n : Notice) : (l.place n).reserved = l.reserved := by
  rw [Link.place_eq]

@[simp] theorem Link.place_assembler (l : Link) (n : Notice) : (l.place n).assembler = l.assembler := by
  rw [Link.place_eq]

@[simp] theorem Link.place_straps (l : Link) (n : Notice) : (l.place n).straps = l.straps := by
  rw [Link.place_eq]

@[simp] theorem Link.place_sending (l : Link) (n : Notice) : (l.place n).sending = l.sending := by
  rw [Link.place_eq]

/-- The transmitter's choice writes the message in it and the notice queue only. -/
theorem Link.pump_eq (l : Link) (r : Option CardRecord) :
    l.pump r = { l with sending := (l.pump r).sending, notices := (l.pump r).notices } := by
  unfold Link.pump
  split
  · rfl
  · split
    · rfl
    · split <;> rfl

@[simp] theorem Link.pump_places (l : Link) (r : Option CardRecord) : (l.pump r).places = l.places := by
  rw [Link.pump_eq]; rfl

@[simp] theorem Link.pump_part (l : Link) (r : Option CardRecord) : (l.pump r).part = l.part := by
  rw [Link.pump_eq]

@[simp] theorem Link.pump_replies (l : Link) (r : Option CardRecord) : (l.pump r).replies = l.replies := by
  rw [Link.pump_eq]

@[simp] theorem Link.pump_reserved (l : Link) (r : Option CardRecord) : (l.pump r).reserved = l.reserved := by
  rw [Link.pump_eq]

@[simp] theorem Link.pump_assembler (l : Link) (r : Option CardRecord) : (l.pump r).assembler = l.assembler := by
  rw [Link.pump_eq]

@[simp] theorem Link.pump_lost (l : Link) (r : Option CardRecord) : (l.pump r).lost = l.lost := by
  rw [Link.pump_eq]

@[simp] theorem Link.pump_straps (l : Link) (r : Option CardRecord) : (l.pump r).straps = l.straps := by
  rw [Link.pump_eq]

/-- The transmitter's choice never makes the queue longer. -/
theorem Link.pump_notices_le (l : Link) (r : Option CardRecord) : (l.pump r).notices.length ≤ l.notices.length := by
  unfold Link.pump
  split
  · exact Nat.le_refl _
  · split
    · exact Nat.le_refl _
    · split
      · rename_i h; simp [h]
      · exact Nat.le_refl _

/-- R182: with the part RUNNING, no message held and a place free, a command is handed to its owner. -/
theorem arrive_taken (s : State) (tag : Byte) (c : HostCommand) (hh : s.link.assembler.held = none)
    (hp : s.link.places < replyPlaces) : s.arrive tag c = s.takeCommand tag c := by
  unfold State.arrive
  rw [hh]
  simp [hp]

/-- R182: a command that needs the part RUNNING is carried out by its rule while it is. -/
theorem whenRunning_running (s : State) (f : State → Taken) (h : s.link.part = .running) : s.whenRunning f = f s := by
  simp [State.whenRunning, h]

/-- R182: a command that needs the part RUNNING is refused NO_CONFIG while it is not, and nothing is done. -/
theorem whenRunning_not_running (s : State) (f : State → Taken) (h : s.link.part ≠ .running) :
    s.whenRunning f = (s, some (.refused .noConfig)) := by
  simp [State.whenRunning, h, State.refuse]

end Sys2Proof.Machine
end

