-- ==== Sys2Proof/Laws/Memory.lean ====
section
/-! SUPPORT. The journal array keeps its canonical form under every operation over it, and reads back what a write put there (R166). -/

set_option Elab.async false

namespace Sys2Proof.Machine

/-- What the canonical form says of a list with a first cell. -/
theorem Memory.wf_cons (c : Host.Cell) (cs : List Host.Cell) :
    Memory.wf (c :: cs) = true ↔
      c.1 < arraySize ∧ c.2 ≠ erasedByte ∧ (∀ d ∈ cs, c.1 < d.1) ∧ Memory.wf cs = true := by
  simp [Memory.wf, List.all_eq_true, and_assoc]

/-- The cells of a canonical list filtered are a canonical list. -/
theorem Memory.wf_filter (p : Host.Cell → Bool) : ∀ m : List Host.Cell, Memory.wf m = true → Memory.wf (m.filter p) = true
  | [], _ => rfl
  | c :: cs, h => by
    rw [Memory.wf_cons] at h
    obtain ⟨ha, hb, hc, hd⟩ := h
    have ih := Memory.wf_filter p cs hd
    by_cases hp : p c = true
    · rw [List.filter_cons_of_pos hp, Memory.wf_cons]
      exact ⟨ha, hb, fun d hm => hc d ((List.mem_filter.mp hm).1), ih⟩
    · rw [List.filter_cons_of_neg hp]
      exact ih

/-- A cell of the list after a write is the cell written or one that stood before. -/
theorem Memory.mem_write (a : Nat) (b : Byte) (d : Host.Cell) :
    ∀ m : List Host.Cell, d ∈ Memory.write m a b → d = (a, b) ∨ d ∈ m
  | [], h => by
    unfold Memory.write at h
    split at h <;> simp_all
  | c :: cs, h => by
    unfold Memory.write at h
    split at h
    · split at h <;> simp_all
    · split at h
      · split at h
        · exact Or.inr (List.mem_cons_of_mem _ h)
        · rcases List.mem_cons.mp h with h | h
          · exact Or.inl h
          · exact Or.inr (List.mem_cons_of_mem _ h)
      · rcases List.mem_cons.mp h with h | h
        · exact Or.inr (h ▸ List.mem_cons_self)
        · rcases Memory.mem_write a b d cs h with h | h
          · exact Or.inl h
          · exact Or.inr (List.mem_cons_of_mem _ h)

/-- A write inside the array keeps the canonical form. -/
theorem Memory.wf_write (a : Nat) (b : Byte) (ha : a < arraySize) :
    ∀ m : List Host.Cell, Memory.wf m = true → Memory.wf (Memory.write m a b) = true
  | [], _ => by
    unfold Memory.write
    split
    · rfl
    · rename_i hb
      rw [Memory.wf_cons]
      exact ⟨ha, hb, by simp, rfl⟩
  | c :: cs, h => by
    have h' := h
    rw [Memory.wf_cons] at h'
    obtain ⟨h1, h2, h3, h4⟩ := h'
    unfold Memory.write
    split
    · rename_i hlt
      split
      · exact h
      · rename_i hb
        rw [Memory.wf_cons]
        refine ⟨ha, hb, ?_, h⟩
        intro d hd
        rcases List.mem_cons.mp hd with hd | hd
        · subst hd; exact hlt
        · exact Nat.lt_trans hlt (h3 d hd)
    · split
      · rename_i _ heq
        split
        · exact h4
        · rename_i hb
          rw [Memory.wf_cons]
          exact ⟨ha, hb, fun d hd => heq ▸ h3 d hd, h4⟩
      · rename_i hge hne
        rw [Memory.wf_cons]
        refine ⟨h1, h2, ?_, Memory.wf_write a b ha cs h4⟩
        intro d hd
        rcases Memory.mem_write a b d cs hd with hd | hd
        · subst hd; show c.1 < a; omega
        · exact h3 d hd

/-- Whatever byte each write forms, a run of writes keeps the canonical form. -/
theorem Memory.wf_combine (f : Nat → Byte → Byte → Byte) :
    ∀ (bs : List Byte) (m : List Host.Cell) (a : Nat), Memory.wf m = true → Memory.wf (Memory.combine f m a bs) = true
  | [], _, _, h => h
  | b :: bs, m, a, h => by
    unfold Memory.combine
    apply Memory.wf_combine f bs
    split
    · exact Memory.wf_write a _ (by assumption) m h
    · exact h

/-- A page program keeps the canonical form. -/
theorem Memory.wf_program (m : List Host.Cell) (a : Nat) (bs : List Byte) (h : Memory.wf m = true) :
    Memory.wf (Memory.program m a bs) = true := Memory.wf_combine _ bs m a h

/-- A page program cut by a reset keeps the canonical form. -/
theorem Memory.wf_cutProgram (m : List Host.Cell) (a : Nat) (bs : List Byte) (k : Nat) (h : Memory.wf m = true) :
    Memory.wf (Memory.cutProgram m a bs k) = true := Memory.wf_combine _ bs m a h

/-- A program of a commit byte cut by a reset keeps the canonical form. -/
theorem Memory.wf_cutCommit (m : List Host.Cell) (a : Nat) (bs : List Byte) (k : Nat) (h : Memory.wf m = true) :
    Memory.wf (Memory.cutCommit m a bs k) = true := Memory.wf_combine _ bs m a h

/-- A page program that failed verify keeps the canonical form. -/
theorem Memory.wf_failedProgram (m : List Host.Cell) (a : Nat) (bs : List Byte) (k : Nat) (h : Memory.wf m = true) :
    Memory.wf (Memory.failedProgram m a bs k) = true := Memory.wf_combine _ bs m a h

/-- A block erase keeps the canonical form. -/
theorem Memory.wf_erase (m : List Host.Cell) (b : Nat) (h : Memory.wf m = true) : Memory.wf (Memory.erase m b) = true :=
  Memory.wf_filter _ m h

/-- The cells left by a cut erase stood before. -/
theorem Memory.mem_cutErase (block k : Nat) (d : Host.Cell) :
    ∀ m : List Host.Cell, d ∈ Memory.cutErase block k m → d ∈ m
  | [], h => h
  | c :: cs, h => by
    unfold Memory.cutErase at h
    split at h
    · rcases List.mem_cons.mp h with h | h
      · exact h ▸ List.mem_cons_self
      · exact List.mem_cons_of_mem _ (Memory.mem_cutErase block k d cs h)
    · exact List.mem_cons_of_mem _ (Memory.mem_cutErase block k d cs h)

/-- A block erase cut by a reset keeps the canonical form. -/
theorem Memory.wf_cutErase (block k : Nat) : ∀ m : List Host.Cell, Memory.wf m = true → Memory.wf (Memory.cutErase block k m) = true
  | [], _ => rfl
  | c :: cs, h => by
    rw [Memory.wf_cons] at h
    obtain ⟨h1, h2, h3, h4⟩ := h
    have ih := Memory.wf_cutErase block k cs h4
    unfold Memory.cutErase
    split
    · rw [Memory.wf_cons]
      exact ⟨h1, h2, fun d hd => h3 d (Memory.mem_cutErase block k d cs hd), ih⟩
    · exact ih

/-- The cells of a canonical list, each with another byte, those erased left out. -/
theorem Memory.wf_map_filter (f : Host.Cell → Host.Cell) (hf : ∀ c, (f c).1 = c.1) :
    ∀ m : List Host.Cell, Memory.wf m = true → Memory.wf ((m.map f).filter (fun c => c.2 != erasedByte)) = true
  | [], _ => rfl
  | c :: cs, h => by
    rw [Memory.wf_cons] at h
    obtain ⟨h1, _, h3, h4⟩ := h
    have ih := Memory.wf_map_filter f hf cs h4
    rw [List.map_cons]
    by_cases hb : ((f c).2 != erasedByte) = true
    · rw [List.filter_cons_of_pos (p := fun c : Host.Cell => c.2 != erasedByte) hb, Memory.wf_cons]
      refine ⟨by rw [hf]; exact h1, by simpa using hb, ?_, ih⟩
      intro d hd
      obtain ⟨x, hx, hxd⟩ := List.mem_map.mp ((List.mem_filter.mp hd).1)
      rw [← hxd, hf, hf]
      exact h3 x hx
    · rw [List.filter_cons_of_neg (p := fun c : Host.Cell => c.2 != erasedByte) hb]
      exact ih

/-- A block erase that failed verify keeps the canonical form. -/
theorem Memory.wf_failedErase (m : List Host.Cell) (b k : Nat) (h : Memory.wf m = true) :
    Memory.wf (Memory.failedErase m b k) = true := by
  unfold Memory.failedErase
  apply Memory.wf_map_filter _ _ m h
  intro c
  split <;> rfl

/-- What a reset leaves of the array is in the canonical form. -/
theorem Journal.wf_cutArray (j : Journal) (k : Nat) (h : Memory.wf j.array = true) : Memory.wf (j.cutArray k) = true := by
  have h0 : Memory.wf (match j.arbiter.running with
      | some (.program o a bs) => if j.atCommit o then Memory.cutCommit j.array a bs k else Memory.cutProgram j.array a bs k
      | some (.erase e) => Memory.cutErase e.block k j.array
      | _ => j.array) = true := by
    split
    · split
      · exact Memory.wf_cutCommit _ _ _ _ h
      · exact Memory.wf_cutProgram _ _ _ _ h
    · exact Memory.wf_cutErase _ _ _ h
    · exact h
  unfold Journal.cutArray
  dsimp only
  split
  · exact Memory.wf_cutErase _ _ _ h0
  · exact h0

/-- The memory of the model's reset is in the canonical form. -/
theorem reset_array_wf : Memory.wf State.reset.journal.array = true := rfl

/-- No cell below an address is met when it is read. -/
theorem Memory.read_of_all_above (a : Nat) : ∀ m : List Host.Cell, (∀ d ∈ m, a < d.1) → Memory.read m a = erasedByte
  | [], _ => rfl
  | c :: cs, h => by
    have hc := h c List.mem_cons_self
    unfold Memory.read
    rw [if_neg (by omega)]
    exact Memory.read_of_all_above a cs (fun d hd => h d (List.mem_cons_of_mem _ hd))

/-- A write read back: at its own address the byte given, at any other the byte that stood there. -/
theorem Memory.read_write (a : Nat) (b : Byte) (x : Nat) :
    ∀ m : List Host.Cell, Memory.wf m = true → Memory.read (Memory.write m a b) x = if x = a then b else Memory.read m x
  | [], _ => by
    unfold Memory.write
    by_cases hx : x = a
    · subst hx
      by_cases hb : b = erasedByte <;> simp [hb, Memory.read]
    · have : ¬ a = x := fun h => hx h.symm
      by_cases hb : b = erasedByte <;> simp [hb, Memory.read, hx, this]
  | c :: cs, h => by
    rw [Memory.wf_cons] at h
    obtain ⟨_, _, h3, h4⟩ := h
    have ih := Memory.read_write a b x cs h4
    unfold Memory.write
    by_cases hlt : a < c.1
    · rw [if_pos hlt]
      have habove : ∀ d ∈ c :: cs, a < d.1 := by
        intro d hd
        rcases List.mem_cons.mp hd with hd | hd
        · subst hd; exact hlt
        · exact Nat.lt_trans hlt (h3 d hd)
      have hread := Memory.read_of_all_above a (c :: cs) habove
      by_cases hb : b = erasedByte
      · rw [if_pos hb]
        by_cases hx : x = a
        · rw [if_pos hx, hx, hread, hb]
        · rw [if_neg hx]
      · rw [if_neg hb]
        by_cases hx : x = a
        · simp [Memory.read, hx]
        · rw [if_neg hx]
          have : ¬ a = x := fun h => hx h.symm
          simp [Memory.read, this]
    · rw [if_neg hlt]
      by_cases heq : c.1 = a
      · rw [if_pos heq]
        by_cases hb : b = erasedByte
        · rw [if_pos hb]
          by_cases hx : x = a
          · rw [if_pos hx, hx, hb]
            exact Memory.read_of_all_above a cs (fun d hd => heq ▸ h3 d hd)
          · rw [if_neg hx]
            have : ¬ c.1 = x := fun h => hx (by rw [← h, heq])
            simp [Memory.read, this]
        · rw [if_neg hb]
          by_cases hx : x = a
          · simp [Memory.read, hx]
          · have h1 : ¬ a = x := fun h => hx h.symm
            have h2 : ¬ c.1 = x := fun h => hx (by rw [← h, heq])
            simp [Memory.read, hx, h1, h2]
      · rw [if_neg heq]
        by_cases hcx : c.1 = x
        · have hxa : ¬ x = a := fun h => heq (by rw [hcx, h])
          simp [Memory.read, hcx, hxa]
        · simp only [Memory.read, if_neg hcx]
          exact ih

end Sys2Proof.Machine
end

