-- ==== Sys2Proof/Tests/Slice0.lean ====
section
/-! SUPPORT. Tests: what WellFormed refuses; one witness theorem for each obligation that has hypotheses, a concrete state and operands for
each of its clauses; and single steps on small states. -/

set_option Elab.async false

namespace Sys2Proof.Tests

open Sys2Proof Sys2Proof.Machine

/-! ## Small states -/

/-- The state that a command leaves. -/
def after (i : Instr) (s : State) : State :=
  match exec i s with
  | .next t => t
  | .fault _ => s
  | .refused _ => s

/-- A part in RUNNING: the scan over, the identity written, the station in MEMBER with a budget of 8. -/
def lane : State :=
  { State.reset with
    link := { State.reset.link with part := .running },
    cluster := { State.reset.cluster with state := .member, budget := some 8, rollTimer := some 0 },
    scale := { State.reset.scale with gen := { State.reset.scale.gen with running := true, timer := some 0, period := 20 } },
    journal := { State.reset.journal with scan := none, identity := .written 12 [65],
                                          arbiter := { running := none, waiting := [], suspended := none } } }

/-- A lane whose reply list is full. -/
def crowded : State :=
  { lane with link := { lane.link with replies := List.replicate 4 { kind := 1, tag := 0, body := .done .nothing } } }

/-- A part in STARTING, as reset leaves it, and one in UNCONFIGURED. -/
def unconfigured : State :=
  { lane with link := { lane.link with part := .unconfigured }, cluster := { lane.cluster with state := .off } }

/-- A lane with a sale in a state. -/
def selling (sale : Sale) : State := { lane with sale := sale }

/-- An ITEM line of 250. -/
def item (bag : BagStatus) : Line :=
  { kind := .item 1, desc := [65], price := 250, amount := 250, voided := false, bag := bag, expected := none }

/-- A sale in OPEN with lines. -/
def openSale (lines : List Line) : Sale :=
  { Sale.idle with state := .opened, lines := lines, total := (lines.map (fun l => l.amount)).sum,
                   due := (lines.map (fun l => l.amount)).sum }

/-- A sale in TENDER with one line of 250. -/
def tenderSale (tenders : List Tender) : Sale :=
  { openSale [item .skipped] with state := .tender, tenders := tenders, due := 250 - (tenders.map (fun t => t.amount)).sum }

/-- Authority present by the window. -/
def allowed (s : State) : State := { s with authority := { s.authority with window := some 0 } }

/-- A lane with a cluster unit changed. -/
def station (f : Cluster → Cluster) : State := { lane with cluster := f lane.cluster }

/-- An expectation entry of a line. -/
def expects (line : Nat) : Expectation :=
  { line := line, removal := false, expected := 5, tolerance := 1, age := 0, overdue := false }

/-- A card record with a class and an account number. -/
def cardOf (cls : CardClass) (account : Option (List Byte)) : CardRecord :=
  { id := 0, direction := .forward, trackA := .absent, charsA := [], trackB := .good, charsB := [], account := account, cls := cls,
    overrun := false }

/-- A lane that holds a card. -/
def holdingCard (s : State) (r : CardRecord) : State := { s with card := { s.card with held := some r } }

/-- A capture in flight. -/
def flight (bag : Bool) : CaptureRec := { phase := .waitStable, desc := [65], price := 1000, bag := bag, timer := 0 }

/-- An open sale with a capture in flight. -/
def capturing (bag : Bool) : State :=
  { selling { openSale [] with reservation := some 15045 } with capture := { flight := some (flight bag), interlock := false } }

/-- A produce channel READY and stable, with a gross. -/
def readyChannel (gross : Int) : Channel :=
  { Channel.reset with state := .ready, stable := true, samples := List.replicate 8 0, weights := List.replicate 5 gross,
                       gross := some gross, net := some gross, initialZero := some 0 }

/-- A lane with a produce channel. -/
def platter (c : Channel) : State := { lane with scale := { lane.scale with produce := c } }

/-- A lane with a drawer record. -/
def drawerIn (s : State) (d : Drawer) : State := { s with drawer := d }

/-- The drawer at rest. -/
def drawer : Drawer := lane.drawer

/-- A lane with a print engine. -/
def engineIn (e : Engine) : State := { lane with engine := e }

/-- A row in print: a pass and the passes to come. -/
def rowOfPasses (pass : Option (List Nat)) (plan : List (List Nat)) (feed : Bool) : CurrentRow :=
  { image := 0, width := .w100, pass := pass, plan := plan, feed := feed }

/-- A lane with an operation at the array. -/
def running (op : ArrayOp) : State :=
  { lane with journal := { lane.journal with arbiter := { lane.journal.arbiter with running := some op } } }

/-- A character whose parity and stop bits are right for its data. -/
def goodChar (data : Byte) : LinkChar :=
  { data := data, parity := ((bitsOf 8 data.toNat).filter id).length % 2 == 0, stop := true }

/-- A lane in LONE with the holdings of its two consumers. -/
def alone (p d : Nat) : State :=
  { lane with cluster := { lane.cluster with state := .lone, loneCause := some .line,
                                             printer := { holding := p, request := .idle, claim := none },
                                             drawer := { holding := d, request := .idle, claim := none } } }

/-- A lane whose journal stands at a level. -/
def journalAt (s : State) (l : JournalLevel) : State := { s with journal := { s.journal with level := l } }

/-- A lane with a sense input about to settle at a level, its watches judged from the levels before. -/
def settling (s : State) (i : SenseInput) (before now : Level) : State :=
  { s with sense := (s.sense.setPin i { raw := now, debounced := before, count := some 9999 }).judge }

/-- A lane whose assembler waits for the CHECK of a body. -/
def atCheck (s : State) (body : List Byte) : State :=
  s.setAssembler { Assembler.reset with state := .check, buffer := BitVec.ofNat 8 body.length :: body, gap := some 0 }

/-- The fields of an ADD LINE. -/
def fieldsOf (quantity price : Nat) (expected : Option (Nat × Nat)) : LineFields :=
  { desc := [65], quantity := quantity, price := price, expected := expected, noBag := false }

/-- Values that CONFIGURE takes. -/
def values : ConfigValues :=
  { budget := 8, headMax := 1, period := 10, produceZero := 0, produceSpan := 1, baggingZero := 0, baggingSpan := 65535,
    kickWidth := 40, prefixes := [[49, 50, 51, 52]], headers := [[72]], decimals := 3 }

/-- A frame heard as it was sent. -/
def asSent : Heard := .read .asSent .asSent .asSent

/-! ## WellFormed: one ill-formed command for each check -/

theorem test_wf_refuses_commands :
    Instr.wf (.addLine 1 { fieldsOf 1 1 none with desc := List.replicate 256 65 }) = false ∧
    Instr.wf (.addLine 1 (fieldsOf 65536 1 none)) = false ∧ Instr.wf (.addLine 1 (fieldsOf 1 16777216 none)) = false ∧
    Instr.wf (.addLine 1 (fieldsOf 1 1 (some (65536, 0)))) = false ∧ Instr.wf (.addLine 1 (fieldsOf 1 1 (some (1, 65536)))) = false ∧
    Instr.wf (.voidLine 1 256) = false ∧ Instr.wf (.tenderCash 1 4294967296) = false ∧
    Instr.wf (.tenderCard 1 4294967296 [65]) = false ∧ Instr.wf (.tenderCard 1 1 (List.replicate 256 65)) = false ∧
    Instr.wf (.weighItem 1 (List.replicate 256 65) 1 0) = false ∧ Instr.wf (.weighItem 1 [65] 16777216 0) = false ∧
    Instr.wf (.weighItem 1 [65] 1 256) = false ∧ Instr.wf (.setTare 1 (some 65536)) = false ∧ Instr.wf (.playTone 1 256) = false ∧
    Instr.wf (.writeIdentity 1 65536 [65]) = false ∧ Instr.wf (.writeIdentity 1 1 (List.replicate 256 65)) = false ∧
    Instr.wf (.readJournal 1 1 65536) = false := by decide +kernel

theorem test_wf_refuses_configurations :
    Instr.wf (.configure 1 { values with budget := 256 }) = false ∧ Instr.wf (.configure 1 { values with headMax := 256 }) = false ∧
    Instr.wf (.configure 1 { values with period := 256 }) = false ∧
    Instr.wf (.configure 1 { values with produceZero := 8388608 }) = false ∧
    Instr.wf (.configure 1 { values with produceSpan := 65536 }) = false ∧
    Instr.wf (.configure 1 { values with baggingZero := -8388609 }) = false ∧
    Instr.wf (.configure 1 { values with baggingSpan := 65536 }) = false ∧
    Instr.wf (.configure 1 { values with kickWidth := 256 }) = false ∧
    Instr.wf (.configure 1 { values with prefixes := List.replicate 256 [] }) = false ∧
    Instr.wf (.configure 1 { values with prefixes := [List.replicate 256 65] }) = false ∧
    Instr.wf (.configure 1 { values with headers := List.replicate 256 [] }) = false ∧
    Instr.wf (.configure 1 { values with headers := [List.replicate 256 65] }) = false ∧
    Instr.wf (.configure 1 { values with decimals := 256 }) = false := by decide +kernel

theorem test_wf_refuses_long_body :
    Instr.wf (.writeIdentity 1 1 (List.replicate 251 65)) = false ∧ Instr.wf (.writeIdentity 1 1 (List.replicate 250 65)) = true := by
  decide +kernel

theorem test_wf_refuses_frames :
    Instr.wf (.callRaise 1 0 asSent) = false ∧ Instr.wf (.shareClaim 1 .printer 0 3 asSent) = false ∧
    Instr.wf (.shareClaim 1 .printer 4 3 asSent) = false ∧ Instr.wf (.shareTopup 1 .drawer 1 61 asSent) = false ∧
    Instr.wf (.shareRelease 1 .printer 0 asSent) = false ∧
    Instr.wf (.roll 1 { budget := 7, printer := 0, drawer := 0, join := false, callOpen := false, ticket := none, reasons := 0 } asSent)
      = false ∧
    Instr.wf (.frameVetoed { sender := 1, body := .claim .printer 0 1 } asSent) = false ∧
    Instr.wf (.frameVoid { sender := 1, body := .release .printer 61 } asSent { ack := false, fault := true, veto := false }) = false ∧
    Instr.wf (.frameVoid { sender := 1, body := .expire 2 } asSent { ack := true, fault := false, veto := false }) = false := by
  decide +kernel

theorem test_wf_refuses_readings :
    Instr.wf (.expire 1 2 (.read (.slots (List.replicate 141 true)) .asSent .asSent)) = false ∧
    Instr.wf (.callClear 1 .withdrawn (.read .asSent (.slots (List.replicate 141 true)) .asSent)) = false ∧
    Instr.wf (.callClear 1 .withdrawn (.read .asSent .asSent (.slots (List.replicate 141 true)))) = false := by decide +kernel

theorem test_wf_refuses_events :
    Instr.wf (.conversionEnd 8388608) = false ∧ Instr.wf (.deadline 64) = false ∧ Instr.wf (.trackTransition .a 0) = false := by
  decide +kernel

theorem test_wf_accepts :
    Instr.wf (.addLine 1 (fieldsOf 65535 16777215 (some (65535, 65535)))) = true ∧ Instr.wf (.configure 1 values) = true ∧
    Instr.wf (.setTare 1 none) = true ∧ Instr.wf (.conversionEnd (-8388608)) = true ∧ Instr.wf .busFree = true ∧
    Instr.wf (.expire 1 2 .missed) = true ∧ Instr.wf (.trackTransition .b 1) = true := by decide +kernel

/-! ## Witnesses: the link, resets, the sale -/

theorem witness_step_takes_front :
    ({ lane with pending := [.stopTone 1, .rollTimer] } : State).pending = .stopTone 1 :: [.rollTimer] ∧
    step { lane with pending := [.stopTone 1, .rollTimer] } = exec (.stopTone 1) { lane with pending := [.rollTimer] } :=
  ⟨rfl, rfl⟩

theorem witness_reset_keeps_array :
    (∀ e, lane.journal.arbiter.running ≠ some (.erase e)) ∧ (∀ o a b, lane.journal.arbiter.running ≠ some (.program o a b)) ∧
    lane.journal.arbiter.suspended = none :=
  ⟨fun _ h => (nomatch h), fun _ _ _ h => (nomatch h), rfl⟩

theorem witness_message :
    let s := atCheck lane ((HostCommand.tenderCash 5).body 9)
    let c := goodChar (checkByte ((HostCommand.tenderCash 5).body 9))
    s.link.assembler.held = none ∧ s.link.assembler.state = .check ∧ s.link.assembler.errors = .clear ∧ LinkChar.good c = true ∧
    c.data = checkByte (s.link.assembler.buffer.drop 1) ∧ s.link.places < replyPlaces ∧
    readBody (s.link.assembler.buffer.drop 1) = .command 9 (.tenderCash 5) := by decide +kernel

theorem witness_message_held :
    let s := atCheck crowded ((HostCommand.total).body 9)
    let c := goodChar (checkByte ((HostCommand.total).body 9))
    s.link.assembler.held = none ∧ s.link.assembler.state = .check ∧ s.link.assembler.errors = .clear ∧ LinkChar.good c = true ∧
    c.data = checkByte (s.link.assembler.buffer.drop 1) ∧ replyPlaces ≤ s.link.places ∧
    readBody (s.link.assembler.buffer.drop 1) = .command 9 .total := by decide +kernel

theorem witness_message_refused :
    let s := atCheck lane [0x1C, 9]
    let c := goodChar (checkByte [0x1C, 9])
    s.link.assembler.held = none ∧ s.link.assembler.state = .check ∧ s.link.assembler.errors = .clear ∧ LinkChar.good c = true ∧
    c.data = checkByte (s.link.assembler.buffer.drop 1) ∧ s.link.places < replyPlaces ∧
    readBody (s.link.assembler.buffer.drop 1) = .refused 0x1C 9 .unknown ∧ readBody [0, 9] = .refused 0 9 .unknown ∧
    decodePayload 27 [1] = none ∧ decodePayload 1 [] = none := by decide +kernel

theorem witness_bad_message :
    lane.link.assembler.gap = none ∧ (atCheck lane [4, 1]).link.assembler.gap = some 0 ∧
    (let s := atCheck lane [4, 1]
     s.link.assembler.held = none ∧ s.link.assembler.state = .check ∧ s.link.assembler.errors = .clear ∧
     LinkChar.good (goodChar 0) = true ∧ (goodChar 0).data ≠ checkByte (s.link.assembler.buffer.drop 1)) ∧
    (let s := (atCheck lane [4, 1]).setAssembler { (atCheck lane [4, 1]).link.assembler with errors := { LinkErrors.clear with parity := true } }
     s.link.assembler.held = none ∧ s.link.assembler.state = .check ∧ s.link.assembler.errors ≠ .clear) := by decide +kernel

theorem witness_held_message :
    let s := lane.setAssembler (lane.link.assembler.holding [4, 1])
    s.link.assembler.held = some [4, 1] ∧ s.link.places < replyPlaces ∧ readBody [4, 1] = .command 1 .total ∧
    s.link.assembler.dropped = 0 ∧
    (0 < (lane.setAssembler { lane.link.assembler.holding [4, 1] with dropped := 1 }).link.assembler.dropped) := by decide +kernel

theorem witness_held_message_refused :
    let s := lane.setAssembler (lane.link.assembler.holding [0x1C, 9])
    s.link.assembler.held = some [0x1C, 9] ∧ s.link.places < replyPlaces ∧ readBody [0x1C, 9] = .refused 0x1C 9 .unknown ∧
    readBody [5, 9] = .refused 5 9 .range ∧ lane.link.assembler.held = none ∧ replyPlaces ≤ crowded.link.places := by decide +kernel

theorem witness_transmitter :
    let busy := { crowded with link := { crowded.link with sending := some { chars := [], reply := true } } }
    busy.link.sending = some { chars := [], reply := true } ∧ busy.link.replies ≠ [] ∧
    (crowded.link.sending = none ∧ crowded.link.replies ≠ []) ∧
    (let s := lane.notice (.nearEnd .first)
     s.link.sending = none ∧ s.link.replies = [] ∧ s.link.notices = .nearEnd .first :: []) ∧
    lane.link.sending = none ∧ lane.link.replies = [] ∧ lane.link.notices = [] := by decide +kernel

theorem witness_assembler :
    lane.link.assembler.held = none ∧ lane.link.assembler.state = .hunt ∧ LinkChar.good (goodChar 0x7E) = true ∧
    LinkChar.good { goodChar 0x7E with stop := false } = false ∧
    (lane.setAssembler { Assembler.reset with state := .length }).link.assembler.state = .length ∧
    (lane.setAssembler { Assembler.reset with state := .body, due := 1 }).link.assembler.state = .body ∧
    (lane.setAssembler (lane.link.assembler.holding [4, 1])).link.assembler.held = some [4, 1] := by decide +kernel

theorem witness_bad_characters :
    let s := lane.setAssembler { Assembler.reset with state := .length }
    s.link.assembler.held = none ∧ s.link.assembler.state = .length ∧ (goodChar 0).data = 0 ∧ (goodChar 1).data ≠ 0 ∧
    (LinkChar.parityGood { goodChar 1 with parity := true } = false ∧ ({ goodChar 1 with parity := true } : LinkChar).stop = true) ∧
    (atCheck lane [4, 1]).link.assembler.state = .check := by decide +kernel

/-- The lane hands over and takes commands; a part not yet configured hands over. -/
theorem witness_takes_commands : lane.takesCommands ∧ unconfigured.handsOver ∧ State.reset.handsOver := by
  unfold State.takesCommands State.handsOver
  decide +kernel

theorem witness_needs_configuration :
    unconfigured.link.part ≠ .running ∧ State.reset.link.part ≠ .running ∧ needsRunning .total = true := by decide +kernel

theorem witness_configure :
    State.reset.link.part = .starting ∧ lane.link.part = .running ∧ unconfigured.link.part = .unconfigured ∧
    configInRange values = true ∧ configInRange { values with budget := 7 } = false ∧
    configInRange { values with budget := 60, headMax := 16, period := 40, kickWidth := 200, produceZero := -8388608 } = true := by
  decide +kernel

/-- The identity of the lane is written, and that of a part after reset is not. -/
theorem witness_identity : lane.journal.identity.isWritten ∧ ¬ State.reset.journal.identity.isWritten :=
  ⟨⟨12, [65], rfl⟩, fun ⟨_, _, h⟩ => by cases h⟩

theorem witness_open_sale :
    let broken := { lane with journal := { lane.journal with level := .fault } }
    let full := { lane with journal := { lane.journal with level := .full } }
    let jammed := drawerIn lane { drawer with state := .jammed }
    lane.sale.state = .idle ∧ (selling (openSale [])).sale.state ≠ .idle ∧ (broken.sale.state = .idle ∧ broken.journal.level = .fault) ∧
    (full.sale.state = .idle ∧ full.journal.level = .full) ∧ (lane.journal.level ≠ .fault ∧ lane.journal.level ≠ .full ∧
    lane.drawer.state = .closed) ∧ (jammed.sale.state = .idle ∧ jammed.drawer.state ≠ .closed) := by decide +kernel

theorem witness_add_line :
    let s := selling (openSale [])
    let rich := selling { openSale [] with total := 99999999, due := 99999999 }
    let long := selling (openSale (List.replicate 64 (item .skipped)))
    let four := { s with bagging := { s.bagging with entries := [expects 0, expects 1, expects 2, expects 3] } }
    let noted := { s with cluster := { s.cluster with queue := [{ station := 0, ticket := none, reasons := 0x010 }] } }
    (s.sale.state = .opened ∧ s.held = false ∧ s.sale.placesUsed < 64 ∧ s.bagging.entries.length < 4) ∧
    (lane.sale.state ≠ .opened) ∧ (noted.sale.state = .opened ∧ noted.held = true) ∧
    (lineFieldsInRange (fieldsOf 999 999999 (some (30000, 3000))) = true ∧ lineFieldsInRange (fieldsOf 0 1 none) = false ∧
     lineFieldsInRange (fieldsOf 1000 1 none) = false ∧ lineFieldsInRange (fieldsOf 1 1000000 none) = false ∧
     lineFieldsInRange (fieldsOf 1 1 (some (30001, 0))) = false) ∧
    (9999999 < 999 * 10011 ∧ 999 * 10010 ≤ 9999999 + 9999) ∧ s.sale.total + s.sale.reserved + 999 * 10010 ≤ 99999999 ∧
    (rich.sale.state = .opened ∧ 99999999 < rich.sale.total + rich.sale.reserved + 1) ∧
    (long.sale.state = .opened ∧ long.held = false ∧ 64 ≤ long.sale.placesUsed ∧ long.sale.total + long.sale.reserved + 1 ≤ 99999999) ∧
    (four.sale.state = .opened ∧ 4 ≤ four.bagging.entries.length ∧ (fieldsOf 1 1 (some (1, 0))).expected.isSome = true) := by
  decide +kernel

theorem witness_void_line :
    let s := allowed (selling (openSale [item .pending, item .bagged, { item .skipped with voided := true }]))
    let kept := { s with bagging := { s.bagging with kept := [{ line := 1, expected := 5, tolerance := 1 }] } }
    let four := { s with bagging := { s.bagging with entries := [expects 0, expects 3, expects 4, expects 5] } }
    (s.sale.state = .opened ∧ s.authority.present = true ∧ s.bagging.entries.length < 4) ∧ lane.authority.present = false ∧
    s.sale.lines[3]? = none ∧ s.sale.lines[0]? = some (item .pending) ∧ s.sale.lines[1]? = some (item .bagged) ∧
    s.sale.lines[2]? = some { item .skipped with voided := true } ∧
    kept.bagging.keptOf 1 = some { line := 1, expected := 5, tolerance := 1 } ∧
    (four.sale.state = .opened ∧ four.sale.lines[1]? = some (item .bagged) ∧ 4 ≤ four.bagging.entries.length) := by decide +kernel

theorem witness_total :
    (selling (openSale [item .bagged])).sale.state = .opened ∧ (selling (openSale [item .bagged])).bagging.entries = [] ∧
    (selling (openSale [item .bagged])).cluster.ownReasons &&& baggingReasons = 0 ∧ lane.journal.level ≠ .full ∧
    0 < (openSale [item .bagged]).total ∧ (openSale []).total = 0 ∧ (openSale []).tenders = [] := by decide +kernel

theorem witness_total_refused :
    let s := selling (openSale [item .bagged])
    let waiting := { s with bagging := { s.bagging with entries := [expects 0] } }
    let noted := { s with cluster := { s.cluster with queue := [{ station := 0, ticket := none, reasons := 1 }] } }
    lane.sale.state ≠ .opened ∧ (waiting.sale.state = .opened ∧ waiting.bagging.entries ≠ []) ∧
    (noted.sale.state = .opened ∧ noted.bagging.entries = [] ∧ noted.cluster.ownReasons &&& baggingReasons ≠ 0) ∧
    (journalAt s .full).journal.level = .full := by decide +kernel

theorem witness_total_ends_capture :
    (capturing true).sale.state = .opened ∧ (capturing true).bagging.entries = [] ∧ (capturing true).capture.flight = some (flight true) ∧
    (capturing true).sale.total = 0 ∧ (capturing true).sale.tenders = [] ∧
    ({ capturing true with sale := { (capturing true).sale with lines := [item .skipped], total := 250 } } : State).sale.total = 250 := by
  decide +kernel

/-- Each clause of what settlement leaves has a state: a journal in FAULT, a busy engine, a drawer that takes no kick. -/
theorem witness_settlement :
    let s := selling (tenderSale [])
    s.journal.level ≠ .fault ∧ (journalAt s .fault).journal.level = .fault ∧ s.engine.state = .idle ∧
    (engineIn { lane.engine with state := .printing }).engine.state ≠ .idle ∧ s.drawer.takesKick = true ∧
    (drawerIn s { drawer with state := .opened }).drawer.takesKick = false ∧
    (lane.notice (.nearEnd .first)).finish.link.sending.isSome = true ∧ lane.link.notices.length ≤ 24 := by decide +kernel

theorem witness_tender_cash :
    let s := selling (tenderSale [])
    let four := selling (tenderSale (List.replicate 4 { kind := .cash, amount := 1 }))
    lane.sale.state ≠ .tender ∧ (s.sale.state = .tender ∧ s.sale.tenders.length < 4) ∧
    (four.sale.state = .tender ∧ 4 ≤ four.sale.tenders.length) ∧ (0 < 1 ∧ 99999999 < 100000000) ∧
    s.sale.paid + 249 < s.sale.total ∧ s.sale.total ≤ s.sale.paid + 250 ∧ s.sale.total ≤ s.sale.paid + 99999999 := by decide +kernel

theorem witness_tender_card :
    let account : List Byte := [1, 2, 3, 4, 5, 6, 7, 8, 9, 0, 1, 2]
    let s := holdingCard (selling (tenderSale [])) (cardOf .customer (some account))
    s.sale.state = .tender ∧ s.sale.tenders.length < 4 ∧ 4 ≤ (tenderSale (List.replicate 4 { kind := .cash, amount := 1 })).tenders.length ∧
    (selling (tenderSale [])).card.held = none ∧ s.card.held = some (cardOf .customer (some account)) ∧
    (cardOf .customer none).account = none ∧ 250 ≤ s.sale.due ∧ s.sale.due < 251 ∧ textIn 1 8 [65] = true ∧ textIn 1 8 [] = false ∧
    s.sale.paid + 249 < s.sale.total ∧ s.sale.total ≤ s.sale.paid + 250 := by decide +kernel

theorem witness_void_sale :
    let s := allowed (selling (tenderSale [{ kind := .cash, amount := 100 }]))
    (s.sale.state = .opened ∨ s.sale.state = .tender) ∧ s.authority.present = true ∧ s.sale.tenders.any Tender.isCard = false ∧
    s.sale.tenders ≠ [] ∧ (openSale []).state = .opened ∧ (lane.sale.state ≠ .opened ∧ lane.sale.state ≠ .tender) ∧
    (selling (openSale [])).authority.present = false ∧
    (tenderSale [{ kind := .card [42] [65], amount := 1 }]).tenders.any Tender.isCard = true := by decide +kernel

/-! ## Witnesses: weighing -/

theorem witness_weigh_item :
    let s := selling (openSale [])
    s.sale.state = .opened ∧ s.held = false ∧ s.capture.flight = none ∧ textIn 1 24 [65] = true ∧ (15045 * 664672 + 500) / 1000 ≤ 9999999 ∧
    9999999 < (15045 * 664673 + 500) / 1000 ∧ s.sale.total + (15045 * 664672 + 500) / 1000 ≤ 99999999 ∧ s.sale.lines.length < 64 ∧
    s.scale.produce.state ≠ .fault ∧ (platter { Channel.reset with state := .fault }).scale.produce.state = .fault := by decide +kernel

theorem witness_weigh_item_refused :
    let s := selling (openSale [])
    let noted := { s with cluster := { s.cluster with queue := [{ station := 0, ticket := none, reasons := 0x010 }] } }
    let long := selling (openSale (List.replicate 64 (item .skipped)))
    lane.sale.state ≠ .opened ∧ (noted.sale.state = .opened ∧ noted.held = true) ∧
    ((capturing true).sale.state = .opened ∧ (capturing true).held = false ∧ (capturing true).capture.flight = some (flight true)) ∧
    textIn 1 24 [] = false ∧ (long.sale.state = .opened ∧ long.held = false ∧ long.capture.flight = none ∧ 64 ≤ long.sale.lines.length ∧
    long.sale.total + (15045 * 1000 + 500) / 1000 ≤ 99999999) := by decide +kernel

theorem witness_capture_ends : lane.capture.flight = none ∧ (capturing true).capture.flight = some (flight true) := by decide +kernel

theorem witness_restart_scale :
    let cut := { lane with scale := { lane.scale with gen := { lane.scale.gen with bridge := .fault } } }
    let asked := { lane with scale := { lane.scale with gen := { lane.scale.gen with restart := true } } }
    lane.scale.gen.bridge = .normal ∧ (cut.link.part = .running ∧ cut.scale.gen.bridge = .fault) ∧
    (asked.scale.gen.timer = some 0 ∧ asked.scale.gen.restart = true) := by decide +kernel

theorem witness_set_zero :
    let s := platter (readyChannel 0)
    let at_ := fun f : Int => platter { readyChannel 0 with samples := [f, 0, 0, 0, 0, 0, 0, 0] }
    unconfigured.link.part ≠ .running ∧ (capturing true).capture.flight = some (flight true) ∧ lane.scale.produce.state ≠ .ready ∧
    ({ readyChannel 0 with stable := false } : Channel).stable = false ∧
    (s.link.part = .running ∧ s.capture.flight = none ∧ s.scale.produce.state = .ready ∧ s.scale.produce.stable = true ∧
     s.scale.produce.filtered = some 0 ∧ s.scale.produce.initialZero = some 0 ∧ s.scale.produce.weightFrom 0 0 = 0) ∧
    ((at_ 960).scale.produce.filtered = some 960 ∧ (at_ 960).scale.produce.weightFrom 960 0 = 60) ∧
    ((at_ (-960)).scale.produce.filtered = some (-960) ∧ (at_ (-960)).scale.produce.weightFrom (-960) 0 = -60) ∧
    (at_ 976).scale.produce.weightFrom 976 0 = 61 := by decide +kernel

theorem witness_tare :
    let s := platter (readyChannel 3000)
    s.capture.flight = none ∧ s.scale.produce.state = .ready ∧ s.scale.produce.stable = true ∧ s.scale.produce.gross = some 3000 ∧
    (0 : Int) < 3000 ∧ 1 ≤ gramsToDivisions 3 5 ∧ gramsToDivisions 15000 5 = 3000 ∧ gramsToDivisions 2 5 = 0 ∧
    (capturing false).capture.flight = some (flight false) := by decide +kernel

theorem witness_tare_refused :
    let heavy := platter { readyChannel 3010 with state := .overload }
    (lane.scale.produce.state ≠ .ready ∧ lane.scale.produce.state ≠ .overload ∧ lane.scale.produce.state ≠ .underload) ∧
    (heavy.scale.produce.state = .overload ∧ heavy.scale.produce.gross = some 3010) ∧
    (platter { readyChannel 10 with stable := false }).scale.produce.stable = false ∧
    (platter (readyChannel 3001)).scale.produce.gross = some 3001 ∧ (platter (readyChannel 0)).scale.produce.gross = some 0 := by
  decide +kernel

theorem witness_period :
    let second := { lane with scale := { lane.scale with gen := { lane.scale.gen with phase := .negativeDead } } }
    let busy := { lane with scale := { lane.scale with conv := { lane.scale.conv with converting := some .temperature } } }
    (lane.scale.gen.running = true ∧ lane.scale.gen.timer = some 0 ∧ lane.scale.gen.restart = false ∧
     lane.scale.gen.phase = .positiveDead ∧ lane.scale.conv.converting = none) ∧
    (second.scale.gen.running = true ∧ second.scale.gen.phase = .negativeDead) ∧
    (busy.scale.gen.running = true ∧ busy.scale.conv.converting = some .temperature) := by decide +kernel

theorem witness_bridge : lane.scale.gen.running = true ∧ State.reset.scale.gen.running = false := by decide +kernel

theorem witness_conversion :
    let at_ := fun (w : Requester) (d : Bool) =>
      { lane with scale := { lane.scale with conv := { lane.scale.conv with converting := some w, discard := d } } }
    (at_ .temperature false).scale.conv.converting = some .temperature ∧
    ((at_ .bagging true).scale.conv.converting = some .bagging ∧ (at_ .bagging true).scale.conv.discard = true) ∧
    ((at_ .produce false).scale.conv.converting = some .produce ∧ (at_ .produce false).scale.conv.discard = false ∧
     (at_ .produce false).scale.gen.running = true ∧ (at_ .produce false).scale.gen.phase = .positiveDead) ∧
    ((at_ .bagging false).scale.conv.converting = some .bagging ∧ (at_ .bagging false).scale.conv.discard = false) := by
  decide +kernel

/-- A lane in the negative half, a conversion of a requester in progress, and two channels with a positive reading. -/
def sampling (w : Requester) (p b : Channel) : State :=
  { lane with scale := { lane.scale with
      gen := { lane.scale.gen with phase := .negativeDrive },
      conv := { lane.scale.conv with converting := some w },
      produce := { p with positive := some 160 }, bagging := { b with positive := some 160 } } }

/-- A channel in a state with seven net samples of 160 half counts and a zero at nothing, so that eight make a gross of 80. -/
def loaded (st : ChannelState) (weights : List Int) : Channel :=
  { Channel.reset with state := st, samples := List.replicate 7 160, weights := weights, initialZero := some 0 }

theorem witness_samples :
    let s := sampling .produce (loaded .ready [80, 80, 80, 80]) (loaded .ready [])
    let b := sampling .bagging (loaded .ready []) (loaded .ready [80, 80, 80, 80])
    s.formsSample .produce s.scale.produce 160 ∧ b.formsSample .bagging b.scale.bagging 160 ∧
    7 ≤ s.scale.produce.samples.length ∧ 7 ≤ b.scale.bagging.samples.length ∧
    (let few := sampling .produce Channel.reset Channel.reset
     few.formsSample .produce few.scale.produce 160 ∧ few.scale.produce.samples.length < 7) := by
  unfold State.formsSample
  decide +kernel

/-- The eighth net sample forms a weight: stable after five equal ones, a first zero out of WARMUP, and NO_ZERO where the load is too great. -/
theorem test_produce_weight :
    let gross := fun st ws => (after (.conversionEnd 0) (sampling .produce { loaded st ws with initialZero := none } .reset)).scale.produce
    let heavy := after (.conversionEnd (-640)) (sampling .produce
      { loaded .warmup (List.replicate 4 400) with initialZero := none, samples := List.replicate 7 800 } .reset)
    (gross .ready [80, 80, 80, 80]).stable = true ∧ (gross .ready [80, 80, 80, 80]).net = some 80 ∧ (gross .ready [80]).stable = false ∧
    (gross .warmup [80, 80, 80, 80]).state = .ready ∧ (gross .warmup [80, 80, 80, 80]).zeroRef = 1280 ∧
    (gross .warmup [80, 80, 80]).state = .warmup ∧ heavy.scale.produce.state = .noZero := by
  decide +kernel

/-- A bagging weight that becomes stable: the baseline where it is wanted, a match of the first entry, and a mismatch. -/
theorem test_bagging_weight :
    let b := fun (baseline : Int) (wanted : Bool) =>
      { sampling .bagging .reset { loaded .ready [80, 80, 80, 80] with baselineWanted := wanted } with
        sale := openSale [item .pending],
        bagging := { entries := [expects 0], baseline := some baseline, kept := [] } }
    let t := fun baseline wanted => after (.conversionEnd 0) (b baseline wanted)
    (t 75 true).bagging.baseline = some 80 ∧ (t 75 true).bagging.entries = [expects 0] ∧
    (t 75 false).bagging.entries = [] ∧ (t 75 false).sale.lines.map (fun l => l.bag) = [.bagged] ∧
    (t 60 false).cluster.wanted = 1 ∧ (t 79 false).bagging.baseline = some 79 := by decide +kernel

theorem witness_prefix :
    let b : Bagging := { entries := [expects 0, expects 1], baseline := some 0, kept := [] }
    b.prefixMatches 5 1 ∧ ¬ b.prefixMatches 10 1 ∧ b.prefixMatches 10 2 ∧ ¬ b.prefixMatches 20 2 ∧ ¬ b.prefixMatches 5 0 ∧
    (b.entries.map (fun e => e.line)).Nodup := by
  unfold Bagging.prefixMatches
  decide +kernel

theorem witness_captured_line :
    (capturing true).capture.flight = some (flight true) ∧ (flight true).phase = .waitStable ∧ (20 : Int) ≤ 20 ∧
    (capturing true).bagging.entries.length < 4 ∧
    ((capturing true).captureWeight .ready true 20 20).sale.lines.map (fun l => l.amount) = [100] ∧
    ((capturing true).captureWeight .ready true 19 19).sale.lines = [] ∧
    ((capturing true).captureWeight .ready true 20 20).bagging.entries.map (fun e => (e.expected, e.tolerance)) = [(10, 3)] ∧
    lane.capture.flight = none := by decide +kernel

theorem witness_deadline :
    let s := { lane with bagging := { lane.bagging with entries := [expects 0, expects 63] } }
    expects 63 ∈ s.bagging.entries ∧ (expects 63).line = 63 ∧ (expects 63).overdue = false := by decide +kernel

/-! ## Witnesses: cards, authority, switches, drawer, tones -/

/-- A lane in a swipe, with an estimate of 300 on track A. -/
def swiping : State :=
  { lane with card := { lane.card with phase := .collecting, swipeTimer := some 0,
                                       a := { TrackChannel.fresh with since := some 0, cells := [100, 100, 100] },
                                       b := .fresh } }

theorem witness_swipe :
    let skipping := { lane with card := { lane.card with phase := .skipping, swipeTimer := some 0 } }
    State.reset.link.part ≠ .running ∧ (lane.link.part = .running ∧ lane.card.phase = .quiet) ∧
    (swiping.link.part = .running ∧ swiping.card.phase = .collecting ∧ (swiping.card.channel .a).opened = true ∧
     (swiping.card.channel .a).since = some 0 ∧ (swiping.card.channel .a).half = none ∧
     (swiping.card.channel .a).cells = [100, 100, 100] ∧ (swiping.card.channel .a).bits.length < 1024) ∧
    (longestCell .a < 0 + 1301 ∧ 0 + 1300 ≤ longestCell .a ∧ 100 + 100 + 100 ≤ 4 * (0 + 75)) ∧ swiping.card.swipeTimer = some 0 ∧
    (skipping.card.phase = .skipping ∧ skipping.card.swipeTimer = some 0) := by decide +kernel

/-- The bits of a track B: start sentinel, the account number 123412341234, end sentinel, check character. -/
def attendantBits : List Bool :=
  let char := fun v : Nat => (List.range 4).map v.testBit ++ [(((List.range 4).map v.testBit).filter id).length % 2 == 0]
  let data := [11, 1, 2, 3, 4, 1, 2, 3, 4, 1, 2, 3, 4, 15]
  data.flatMap char ++ char (data.foldl Nat.xor 0)

theorem witness_decoding :
    let s := { swiping with card := { swiping.card with phase := .decoding } }
    let second := holdingCard s (cardOf .customer none)
    let named := { swiping with card := { swiping.card with phase := .decoding, b := { TrackChannel.closed with bits := attendantBits } ,
                                                            prefixes := [[49, 50, 51, 52]] } }
    (s.card.phase = .decoding ∧ s.card.held = none ∧ (cardRecord s.card.nextId s.card.prefixes s.card.a.bits s.card.b.bits).cls = .unreadable) ∧
    (second.card.phase = .decoding ∧ second.card.held = some (cardOf .customer none)) ∧
    (named.card.phase = .decoding ∧
     (cardRecord 0 named.card.prefixes named.card.a.bits named.card.b.bits).cls = .attendant ∧
     (cardRecord 0 [] named.card.a.bits named.card.b.bits).cls = .customer) := by decide +kernel

/-- A wanted set with a stable bagging channel or not, for each case of a clear attempt. -/
def calling (set : Reasons) (stable : Bool) : State :=
  { lane with cluster := { lane.cluster with wanted := set },
              scale := { lane.scale with bagging := { lane.scale.bagging with stable := stable, gross := some 40 } } }

theorem witness_clear_attempt :
    let two := { calling 0x800 false with journal := { lane.journal with queue := [.call none 1 .key [], .call none 2 .key []] } }
    (calling 0 false).cluster.wanted = 0 ∧ ((calling 0x800 false).cluster.wanted &&& baggingReasons = 0 ∧
    (calling 0x800 false).journal.callPlaceFree = true) ∧ ((calling 1 false).cluster.wanted &&& baggingReasons ≠ 0) ∧
    ((calling 1 true).scale.bagging.stable = true ∧ (calling 1 true).scale.bagging.gross = some 40) ∧
    two.journal.callPlaceFree = false := by decide +kernel

/-- An attendant clears an ASSIST, and a bagging reason where the bagging weight is stable. -/
theorem test_clear_attempt :
    let t := fun set stable => ((calling set stable).attendantCard [49, 50, 51, 52])
    (t 0x800 false).cluster.wanted = 0 ∧ (t 0x800 false).journal.queue = [.call none 0x800 .card [49, 50, 51, 52]] ∧
    (t 0x800 false).cluster.out.map (fun f => f.body) = [.callClear .attendant] ∧ (t 1 false).cluster.wanted = 1 ∧
    (t 1 true).bagging.baseline = some 40 ∧ (t 0 true).journal.queue = [] := by decide +kernel

theorem witness_card_and_window :
    let key := { lane with authority := { window := some 0, key := .turned } }
    lane.card.held = none ∧ (holdingCard lane (cardOf .customer none)).card.held = some (cardOf .customer none) ∧
    ((allowed lane).authority.window = some 0 ∧ (allowed lane).authority.key ≠ .turned) ∧
    (key.authority.window = some 0 ∧ key.authority.key = .turned) := by decide +kernel

theorem witness_assist : lane.cluster.state = .member ∧ lane.cluster.wanted.add .assist = 0x800 := by decide +kernel

theorem witness_levels :
    let away := { lane with sense := lane.sense.setPin .drawer { raw := .second, debounced := .first, count := some 9999 } }
    (Level.first = (lane.sense.pin .key).raw) ∧ (Level.second ≠ (lane.sense.pin .key).raw) ∧
    (Level.second ≠ (lane.sense.pin .key).debounced) ∧ (Level.first ≠ (away.sense.pin .drawer).raw) ∧
    (Level.first = (away.sense.pin .drawer).debounced) ∧ (away.sense.pin .drawer).count = some 9999 ∧
    (away.sense.pin .drawer).raw ≠ (away.sense.pin .drawer).debounced ∧ away.link.part = .running ∧ away.drawer.state = .closed ∧
    away.sense.watchDrawer.expected = [.first] ∧ away.sense.watchDrawer.matching = true ∧ (away.sense.pin .drawer).raw = .second := by
  decide +kernel

theorem witness_spare :
    let s := { lane with sense := lane.sense.setPin .spare2 { raw := .second, debounced := .first, count := some 9999 } }
    (s.sense.pin .spare2).count = some 9999 ∧ (s.sense.pin .spare2).raw ≠ (s.sense.pin .spare2).debounced ∧ s.link.part = .running := by
  decide +kernel

/-- A settling input for each watch event, at both of its changes. -/
theorem witness_watch_events :
    let s := settling lane
    let judged := fun i before now => ((s i before now).sense.watchNearEnd.matching, (s i before now).sense.watchMedia.matching,
      (s i before now).sense.watchCutter.matching, (s i before now).sense.watchKey.matching, (s i before now).sense.watchDrawer.matching)
    judged .nearEnd .second .first = (false, true, true, true, true) ∧ judged .paper .second .first = (true, false, true, true, true) ∧
    judged .cutterHome .second .first = (true, true, false, true, true) ∧ judged .key .second .first = (true, true, true, false, true) ∧
    judged .drawer .second .first = (true, true, true, true, false) ∧ judged .cover .first .second = (true, true, true, true, true) ∧
    (settling unconfigured .drawer .first .second).link.part ≠ .running := by decide +kernel

/-- The states of the engine, the key and the drawer that the watch events tell apart. -/
theorem witness_watch_owners :
    lane.engine.state = .idle ∧ (engineIn { lane.engine with state := .claiming }).engine.state = .claiming ∧
    ((engineIn { lane.engine with state := .printing }).engine.current = none) ∧
    ((engineIn { lane.engine with state := .cutting, job := some .sale }).engine.job = some .sale ∧ lane.sale.waitingJob = none) ∧
    lane.authority.key = .home ∧ ({ window := none, key := .spent } : Authority).key ≠ .home ∧
    (drawerIn lane { drawer with state := .confirm, noSale := true }).drawer.noSale = true ∧
    (drawerIn lane { drawer with state := .kicking }).drawer.state = .kicking ∧
    (drawerIn lane { drawer with state := .opened }).drawer.state = .opened := by decide +kernel

theorem test_watch_events :
    (after (.debouncedChange .paper) (settling lane .paper .first .second)).cluster.wanted = 0x100 ∧
    (after (.debouncedChange .cover) (settling lane .cover .second .first)).engine.mediaSettle = some 0 ∧
    (after (.debouncedChange .key) (settling lane .key .first .second)).authority.key = .turned ∧
    (after (.debouncedChange .cutterHome)
      (settling (engineIn { lane.engine with state := .cutting, job := some .sale, cutTimer := some 0 }) .cutterHome .second .first)).engine.state
      = .idle ∧
    (after (.debouncedChange .drawer) (settling (drawerIn lane { drawer with state := .opened }) .drawer .second .first)).drawer.state =
      .closed := by decide +kernel

theorem witness_kick_refused :
    let s := allowed lane
    (allowed (selling (openSale []))).sale.state ≠ .idle ∧ (journalAt s .fault).journal.level = .fault ∧
    (journalAt s .full).journal.level = .full ∧ (drawerIn s { drawer with noSale := true }).drawer.noSale = true ∧
    (drawerIn s { drawer with state := .opened }).drawer.state ≠ .closed ∧
    (drawerIn s { drawer with state := .opened }).drawer.state ≠ .jammed := by decide +kernel

theorem witness_lone_kick :
    let s := fun p d => drawerIn (allowed (alone p d)) { drawer with state := .jammed }
    (s 0 0).cluster.state = .lone ∧ (s 0 0).cluster.out = [] ∧ (s 0 0).cluster.heldRequests = [] ∧ (s 0 0).cluster.ownSum = 0 ∧
    (0 < (s 3 0).cluster.ownSum ∧ (s 3 0).cluster.drawer.holding < 6) ∧
    (after (.retryDrawer 1) (s 0 0)).drawer.state = .kicking ∧ (after (.retryDrawer 1) (s 3 0)).cluster.drawer.request = .waiting := by
  decide +kernel

theorem witness_kick :
    (allowed lane).authority.present = true ∧ lane.authority.present = false ∧ lane.sale.state = .idle ∧ lane.journal.level ≠ .fault ∧
    lane.journal.level ≠ .full ∧ lane.drawer.noSale = false ∧ lane.journal.noSaleWaiting = false ∧ lane.drawer.state = .closed ∧
    (drawerIn lane { drawer with state := .jammed }).drawer.state = .jammed := by decide +kernel

theorem witness_drawer_timers :
    let s := drawerIn lane
    ((s { drawer with state := .claiming, claimTimer := some 4999999 }).drawer.claimTimer = some 4999999) ∧
    ((s { drawer with state := .kicking, pulseTimer := some 0, openedMark := true }).drawer.openedMark = true ∧
     lane.sense.watchDrawer.matching = true) ∧
    ((s { drawer with state := .kicking, pulseTimer := some 0 }).drawer.openedMark = false) ∧
    ({ lane.sense with watchDrawer := { expected := [.first], matching := false } } : Sense).watchDrawer.matching = false ∧
    ((s { drawer with state := .confirm, confirmTimer := some 499999 }).drawer.retryCount = 0) ∧
    ((s { drawer with state := .confirm, confirmTimer := some 0, retryCount := 1 }).drawer.retryCount ≠ 0) ∧
    ((s { drawer with state := .retryGap, gapTimer := some 0 }).drawer.gapTimer = some 0) := by decide +kernel

theorem witness_open_drawer :
    let s := drawerIn lane { drawer with state := .opened, openTimer := some 29999999 }
    let asked := drawerIn lane { drawer with state := .forced, openTimer := some 59999999, alarmAsked := true }
    (s.link.part = .running ∧ s.drawer.state = .opened ∧ s.drawer.openTimer = some 29999999 ∧ s.drawer.alarmAsked = false) ∧
    (asked.link.part = .running ∧ asked.drawer.state = .forced ∧ asked.drawer.openTimer = some 59999999 ∧
     asked.drawer.alarmAsked = true) := by decide +kernel

theorem witness_tones :
    let sounding := fun (t : ToneName) (n : Nat) => { lane with tone := some { tone := t, source := .host, elapsed := 0, steps := n } }
    toneOf 3 = some .chirp ∧ toneOf 0 = some .alarm ∧ toneOf 4 = none ∧ lane.tone = none ∧
    ((sounding .alarm 0).tone.isSome = true ∧ ToneName.precedence .chirp < ToneName.precedence .alarm) ∧
    ((sounding .alert 6).tone.isSome = true ∧ ToneName.precedence .alert ≤ ToneName.precedence .alert ∧ 6 < 7) ∧
    (sounding .alert 7).sounder = some { hertz := 2000, level := 1 } ∧ (sounding .alarm 1).sounder = some { hertz := 2400, level := 8 } ∧
    ((sounding .double 1).sounder = none ∧ (sounding .double 1).tone.isSome = true ∧ (sounding .double 2).sounder.isSome = true) ∧
    (sounding .chirp 0).sounder.isSome = true ∧ lane.sounder = none := by
  decide +kernel

/-! ## Witnesses: the cluster bus -/

/-- The table of a lane with station 1 holding 1 and 1. -/
def shared : State := station (fun c => { c with peers := [{ station := 1, printer := 1, drawer := 1 }] })

/-- A lane whose frame is on the bus. -/
def sending (b : FrameBody) : State :=
  { shared with cluster := { shared.cluster with onBus := some { age := 0, frame := { sender := 0, body := b } } } }

theorem witness_bus_free :
    let asked := station (fun c => c.requestRoll)
    let joining := station (fun c => { c.requestRoll with state := .joining })
    (asked.cluster.state = .member ∧ asked.cluster.onBus = none ∧ asked.cluster.out = { age := 0, body := .roll } :: []) ∧
    (joining.cluster.state = .joining ∧ joining.cluster.onBus = none ∧
     joining.cluster.out.find? (fun g => g.body.isRoll) = some { age := 0, body := .roll }) ∧
    State.reset.cluster.state = .off ∧ (sending (.expire 2)).cluster.onBus.isSome = true := by decide +kernel

theorem witness_call_frames :
    let called := station (fun c => { c with queue := [{ station := 1, ticket := some 7, reasons := 1 }] })
    (shared.cluster.listens = true ∧ shared.cluster.onBus = none ∧ (1 : StationNo) ≠ shared.cluster.number ∧ (1 : Reasons) ≠ 0 ∧
     shared.cluster.entryOf 1 = none ∧ (∀ e ∈ shared.cluster.queue, e.ticket ≠ none)) ∧
    (called.cluster.listens = true ∧ called.cluster.onBus = none ∧ (1 : StationNo) ≠ called.cluster.number ∧
     called.cluster.entryOf 1 = some { station := 1, ticket := some 7, reasons := 1 }) := by decide +kernel

theorem witness_supply_frames :
    shared.cluster.state = .member ∧ shared.cluster.onBus = none ∧ (1 : StationNo) ≠ shared.cluster.number ∧
    (shared.cluster.peerRow 1).isSome = true ∧ 6 ≤ min 60 (shared.cluster.budget.getD 0 - shared.cluster.tableSum) ∧
    ¬ 7 ≤ min 60 (shared.cluster.budget.getD 0 - shared.cluster.tableSum) ∧
    (sending (.claim .printer 3 3)).cluster.onBus =
      some { age := 0, frame := { sender := shared.cluster.number, body := .claim .printer 3 3 } } ∧
    (sending (.topup .printer 1 3)).cluster.state = .member ∧ (sending (.release .drawer 6)).cluster.state = .member := by decide +kernel

theorem witness_expire_and_roll :
    shared.cluster.listens = true ∧ shared.cluster.onBus = none ∧ (2 : StationNo) ≠ shared.cluster.number ∧
    shared.cluster.peerRow 1 = some { station := 1, printer := 1, drawer := 1 } ∧
    (station (fun c => { c with state := .listen })).cluster.state = .listen ∧
    (station (fun c => { c with state := .joining })).cluster.state = .joining ∧ shared.cluster.state = .member := by decide +kernel

/-- A ROLL of station 1 at a MEMBER: above its row, with a call that is new, one that stands, and none. -/
theorem witness_roll_at_a_member :
    let r : RollFields := { budget := 8, printer := 5, drawer := 3, join := false, callOpen := true, ticket := some 2, reasons := 4 }
    let s := station (fun c => { c with peers := [{ station := 1, printer := 1, drawer := 1 }], budget := some 8, learned := true,
                                        counter := 9, queue := [{ station := 2, ticket := some 1, reasons := 1 },
                                                                { station := 3, ticket := some 7, reasons := 1 }] })
    let t := after (.roll 1 r asSent) s
    s.cluster.state = .member ∧ s.cluster.entryOf 1 = none ∧ s.cluster.entryOf 2 ≠ none ∧
    s.cluster.rollValues { station := 1, printer := 1, drawer := 1 } r = (5, 3) ∧
    t.cluster.queue.map (fun e => e.station) = [2, 1, 3] ∧ t.cluster.counter = 9 ∧
    (after (.roll 1 { r with printer := 9 } asSent) s).cluster.peerRow 1 = some { station := 1, printer := 5, drawer := 3 } := by
  decide +kernel

theorem witness_other_outcomes :
    (FrameBody.claim .printer 1 60).inRange = true ∧ shared.cluster.listens = true ∧ shared.cluster.mode = .full ∧
    shared.cluster.heldRequests = [] ∧ shared.cluster.failures.length + 1 < 4 ∧
    (sending (.claim .printer 3 3)).cluster.onBus.isSome = true := by decide +kernel

/-- A frame that breaks the stuffing: after the start slot four dominant ones. -/
def stuffed : Reading := .slots [false, false, false, false, true, true]

theorem witness_outcomes_of_peers :
    let f : Frame := { sender := 1, body := .callRaise 4 }
    shared.cluster.listens = true ∧ shared.cluster.onBus = none ∧ shared.cluster.heldRequests = [] ∧ f.sender ≠ shared.cluster.number ∧
    (activeReading (stuffed, .asSent, .asSent) .full).violates = true ∧ (activeReading (stuffed, .asSent, .asSent) .aOnly).violates = false ∧
    (sending (.expire 2)).cluster.onBus ≠ none := by decide +kernel

theorem witness_hears_itself :
    (sending (.claim .printer 3 3)).hearsItself { sender := 0, body := .claim .printer 3 3 } .missed ∧
    (sending (.claim .printer 3 3)).hearsItself { sender := 0, body := .claim .printer 3 3 } (.read .asSent stuffed stuffed) := by
  unfold State.hearsItself
  exact ⟨fun r h => by cases h; rfl, fun r h => by cases h; rfl⟩

theorem witness_own_join_roll :
    let r : RollFields := { budget := 8, printer := 0, drawer := 0, join := true, callOpen := false, ticket := none, reasons := 0 }
    let s := { sending (.roll r) with cluster := { (sending (.roll r)).cluster with state := .joining } }
    s.cluster.state = .joining ∧ r.join = true ∧
    s.cluster.onBus = some { age := 0, frame := { sender := s.cluster.number, body := .roll r } } ∧
    s.hearsItself { sender := s.cluster.number, body := .roll r } .missed :=
  ⟨rfl, rfl, rfl, fun r h => by cases h; rfl⟩

/-- A reading whose first difference lies in the arbitration field, one that differs after it, and one that ends early. -/
theorem witness_own_mismatch :
    let f : Frame := { sender := 0, body := .claim .printer 3 3 }
    let flip := fun k : Nat => Reading.slots (f.slots.zipIdx.map (fun x => if x.2 = k then !x.1 else x.1))
    f.slots[2]? = some true ∧ (flip 2).differsAt f = some 2 ∧ (flip 2).losesArbitration f = true ∧
    (flip 30).differsAt f = some 30 ∧ (flip 30).losesArbitration f = false ∧ f.arbitrationSlots ≤ 30 := by decide +kernel

/-- A station whose fourth failure comes: its active receiver bad or good, another receiver good or none. -/
def failing (good : Bool) : State :=
  { sending (.callRaise 4) with cluster := { (sending (.callRaise 4)).cluster with
      failures := List.replicate 3 { ackRecessive := true, faultDominant := false, d := good, sa := false, sb := false } } }

theorem witness_evaluation :
    let v := fun d sa => ({ d := d, sa := sa, sb := false } : Verdicts)
    (failing true).cluster.state = .member ∧ (failing true).cluster.failures.length + 1 = 4 ∧ (failing true).cluster.heldRequests = [] ∧
    (v false true).active .full = false ∧ (v false true).other .full = some .aOnly ∧ (v false false).other .full = none ∧
    (v true false).active .full = true ∧ (failing true).cluster.failures.all (fun x => x.verdicts.active .full) = true ∧
    (failing true).cluster.failures.all (fun x => x.ackRecessive && x.verdicts.active .full) = true ∧ (failing true).engine.job = none ∧
    (failing true).cluster.out = [] ∧ (failing true).cluster.printer.request ≠ .waiting ∧
    (failing true).cluster.drawer.request ≠ .waiting := by decide +kernel

theorem test_fourth_failure :
    (after (.frameAborted true false true false) (failing false)).cluster.mode = .aOnly ∧
    (after (.frameAborted true false false false) (failing false)).cluster.state = .lone ∧
    (after (.frameAborted true true false false) (failing true)).cluster.loneCause = some .line ∧
    (let s := failing true
     (after (.frameAborted true true false false) { s with cluster := { s.cluster with state := .joining } }).cluster.loneCause
       = some .alone) := by decide +kernel

/-- A stuff violation at the active receiver aborts another station's frame, and a slot read otherwise aborts the own one. -/
theorem test_active_receiver_breaks :
    let f : Frame := { sender := 0, body := .claim .printer 3 3 }
    let flip := fun k : Nat => Reading.slots (f.slots.zipIdx.map (fun x => if x.2 = k then !x.1 else x.1))
    let t := fun k : Nat => after (.shareClaim 0 .printer 3 3 (.read (flip k) .asSent .asSent)) (sending (.claim .printer 3 3))
    (after (.callRaise 1 4 (.read stuffed .asSent .asSent)) shared).cluster.queue = [] ∧
    (after (.callRaise 1 4 (.read stuffed .asSent .asSent)) shared).cluster.fullCount = 0 ∧
    (t 30).cluster.failures.length = 1 ∧ (t 30).cluster.printer.holding = 0 ∧ (t 2).cluster.failures.length = 0 ∧
    (t 2).cluster.onBus = none := by decide +kernel

/-- A station with a row and an entry has one silence timer (R49). -/
theorem test_one_timer_per_station :
    let c := { shared.cluster with queue := [{ station := 1, ticket := some 0, reasons := 1 }] }
    c.known = [1] ∧ c.syncSilence.silence = [(1, 0)] := by decide +kernel

/-- Of a holding whose release is held for the bus nothing counts (R57). -/
theorem test_held_release_counts_nothing :
    let s := sending (.topup .printer 1 3)
    let c := { s.cluster with out := [{ age := 0, body := .topup .printer 1 3 }], printer := { holding := 6, request := .asking, claim := none } }
    (c.requestRelease .printer).heldRequests = [.release .printer] ∧ (c.requestRelease .printer).countedHolding .printer = 0 ∧
    c.countedHolding .printer = 6 := by decide +kernel

/-- R51: a printer clipped to 0 asks for its claim while a carried top-up leaves it below its minimum. -/
theorem test_clipped_printer_asks :
    let s := engineIn { lane.engine with state := .printing, job := some .sale }
    let c := { s.cluster with printer := { holding := 4, request := .asking, claim := none },
                              drawer := { holding := 6, request := .idle, claim := none },
                              out := [{ age := 0, body := .topup .printer 1 2 }] }
    let t := ({ s with cluster := c } : State).enterLone .line
    t.cluster.printer.holding = 0 ∧ t.cluster.printer.request = .waiting ∧ t.engine.state = .claiming := by decide +kernel

theorem witness_station_timers :
    let listening := fun f : Cluster → Cluster => station (fun c => f { c with state := .listen, listen := some 999999 })
    let lone := fun n : Nat => station (fun c => { c with state := .lone, retry := some 9999999,
                                                          printer := { holding := n, request := .idle, claim := none } })
    ((listening id).cluster.state = .listen ∧ (listening id).cluster.listen = some 999999 ∧ (listening id).cluster.duplicate = false ∧
     (listening id).cluster.budgetMark = false ∧ (listening id).cluster.tableSum ≤ (listening id).cluster.budget.getD 0) ∧
    (listening (fun c => { c with duplicate := true })).cluster.duplicate = true ∧
    (listening (fun c => { c with budgetMark := true })).cluster.budgetMark = true ∧
    (let s := listening (fun c => { c with peers := [{ station := 1, printer := 9, drawer := 0 }] })
     s.cluster.budget.getD 0 < s.cluster.tableSum) ∧
    (lane.cluster.state = .member ∧ lane.cluster.rollTimer = some 0) ∧
    ((1, 1499999) ∈ (station (fun c => { c with silence := [(1, 1499999)] })).cluster.silence ∧ 1499999 < ms 1500) ∧
    ((lone 0).cluster.state = .lone ∧ (lone 0).cluster.retry = some 9999999 ∧ (lone 0).cluster.ownSum = 0) ∧
    ((lone 6).cluster.state = .lone ∧ 0 < (lone 6).cluster.ownSum) ∧
    (let s := drawerIn (alone 0 6) { drawer with state := .kicking, pulseTimer := some 0 }
     s.cluster.printer.holding = 0 ∧ s.cluster.printer.request = .idle ∧ 0 < s.cluster.drawer.holding ∧ s.drawer.state = .kicking) := by
  decide +kernel

/-! ## Witnesses: paper and journal -/

theorem witness_engine_events :
    let e := lane.engine
    let turning := engineIn { e with current := some (rowOfPasses none [] true), step := some .two, feedCount := 111 }
    ((engineIn { e with current := some (rowOfPasses (some [0]) [[1]] false) }).engine.current =
      some (rowOfPasses (some [0]) [[1]] false)) ∧
    ((engineIn { e with current := some (rowOfPasses (some [0]) [] false) }).engine.current =
      some (rowOfPasses (some [0]) [] false)) ∧
    (turning.engine.current = some (rowOfPasses none [] true) ∧ turning.engine.step = some .two ∧ 112 ≤ turning.engine.feedCount + 1) ∧
    ((engineIn { e with current := some (rowOfPasses none [] true), step := some .one }).engine.step = some .one) ∧
    ((engineIn { e with state := .pausedHot }).engine.state = .pausedHot) ∧
    ((engineIn { e with mediaSettle := some 0 }).engine.mediaSettle = some 0 ∧ (engineIn { e with mediaSettle := some 0 }).engine.state ≠ .pausedMedia) ∧
    ((engineIn { e with state := .cutting, cutTimer := some 0 }).engine.state = .cutting ∧
     (engineIn { e with state := .cutting, cutTimer := some 0 }).engine.cutTimer = some 0 ∧ lane.sale.waitingJob = none) ∧
    (let s := { engineIn { e with state := .cutting, cutTimer := some 0, job := some .copy } with sale := { Sale.idle with waitingJob := some .sale } }
     s.sale.waitingJob = some .sale ∧ s.engine.job = some .copy ∧ (after .cutTimer s).engine.job = some .sale) := by
  decide +kernel

theorem witness_discarded_step :
    let e := { lane.engine with step := some .leftover }
    (engineIn { e with current := some (rowOfPasses none [] false) }).engine.step = some .leftover ∧ (engineIn e).engine.current = none := by
  decide +kernel

theorem witness_completion :
    let s := { engineIn { lane.engine with state := .cutting, cutTimer := some 0, job := some .sale } with
      sale := { openSale [] with state := .settled, commit := .committed, print := .running } }
    let u := selling { openSale [] with state := .voided, commit := .pending, print := .doneUncut }
    s.awaitsPrint ∧ s.engine.job = some .sale ∧ JobKind.sale ≠ .copy ∧ s.sale.print = .running ∧ ¬ u.awaitsPrint ∧ u.awaitsCommit ∧
    ¬ s.awaitsCommit := by
  unfold State.awaitsPrint State.awaitsCommit
  decide +kernel

/-- R146: the step of a discarded row completes before the next row's first step. -/
theorem test_discarded_step :
    let e := { lane.engine with step := some .two, current := some (rowOfPasses none [] false) }
    e.discardRows.step = some .leftover ∧
    (after .stepEnd (engineIn { e.discardRows with current := some (rowOfPasses none [] false) })).engine.step = some .one ∧
    (after .passEnd (engineIn { e.discardRows with current := some (rowOfPasses (some [0]) [] false) })).engine.step = some .leftover := by
  decide +kernel

theorem witness_receipts :
    let s := { allowed lane with journal := { lane.journal with lastSale := some { seq := 1, addr := 4096 } } }
    s.link.part = .running ∧ s.authority.present = true ∧ s.sale.state = .idle ∧ s.engine.state = .idle ∧
    s.journal.lastSale = some { seq := 1, addr := 4096 } ∧ lane.authority.present = false ∧ lane.journal.lastSale = none ∧
    (allowed (selling (openSale []))).sale.state ≠ .idle ∧
    (engineIn { lane.engine with state := .printing }).engine.state ≠ .idle ∧
    ((alone 0 0).cluster.state = .lone ∧ (alone 0 0).cluster.ownSum = 0 ∧ 1 ≤ (alone 0 0).engine.headMax) := by
  decide +kernel

/-- A lane whose composer stands at a header. -/
def composing (headers : List Text) (c : Cursor) : State :=
  { lane with composer := { lane.composer with state := .composing, kind := some .sale, cursor := some c, headers := headers } }

theorem witness_place_line :
    (composing [[72]] ⟨.header, 0, 0⟩).composer.state = .composing ∧ (composing [[72]] ⟨.header, 0, 0⟩).composer.queue.length < 8 ∧
    (composing [[72]] ⟨.header, 0, 0⟩).lineAtCursor = some (centred [72]) ∧
    (composing [[72]] ⟨.header, 0, 0⟩).engine.state ≠ .printing ∧ (composing [[72]] ⟨.header, 0, 0⟩).engine.state ≠ .waitCommit ∧
    (composing [] ⟨.reference, 0, 0⟩).lineAtCursor.isSome = true := by decide +kernel

theorem witness_journal_commands :
    unconfigured.link.part ≠ .starting ∧ textIn 1 8 [65] = true ∧ lane.journal.identityWrite = none ∧ lane.journal.level ≠ .fault ∧
    ({ lane.journal with lastSeq := 5 } : Journal).exportAllowed 5 = true ∧ ({ lane.journal with lastSeq := 5 } : Journal).exportAllowed 6 = false ∧
    ({ lane.journal with lastSeq := 5 } : Journal).exportAllowed 0 = false ∧ lane.journal.waitingMark = none ∧
    ({ lane.journal with queue := [.mark 4] } : Journal).waitingMark ≠ none := by decide +kernel

/-- A journal whose write block has room. -/
def roomy : Journal := { lane.journal with writeBlock := 1, rest := 4096, blocks := [(1, .written none)] }

theorem witness_take_append :
    let j := { roomy with queue := [.noSale .card] }
    j.scan = none ∧ j.taken = none ∧ j.queue = .noSale .card :: [] ∧ j.placeable Sale.idle (.noSale .card) = true ∧
    (let k := { roomy with level := .full, lastSeq := 5, rest := 10, blocks := [(1, .written none), (3, .written (some (1, 5)))],
                           queue := [.sale false, .mark 4] }
     k.placeable Sale.idle (.sale false) = false ∧ k.targetBlocked = true ∧ ([Append.mark 4].find? Append.isMark) = some (.mark 4) ∧
     k.placeable Sale.idle (.mark 4) = true ∧ 8 ≤ k.rest ∧ k.rest < k.appendLength Sale.idle (.mark 4) ∧
     ({ k with queue := [.sale false] } : Journal).level = .full ∧ ([] : List Append).find? Append.isMark = none) := by decide +kernel

theorem witness_array_operations :
    let s := running (.program .append 4096 [1, 2])
    Memory.wf s.journal.array = true ∧ s.journal.arbiter.running = some (.program .append 4096 [1, 2]) ∧
    programPasses s.journal.array 4096 [1, 2] true = true ∧
    (running (.erase { owner := .eraseAhead, block := 3, suspensions := 0, elapsed := 0 })).journal.arbiter.running =
      some (.erase { owner := .eraseAhead, block := 3, suspensions := 0, elapsed := 0 }) ∧
    ({ lane with journal := { roomy with blocks := [(1, .written none), (2, .dirty)] } } : State).eraseAheadTarget = some 2 := by
  decide +kernel

/-- The last program of the sale's own append, with a sale that waits for its verdict alone. -/
theorem witness_verdict :
    let x : TakenAppend := { kind := .sale, seq := 7, receipt := some 3, markValue := none, addr := 4096, length := 8,
                             programs := [(4103, [0])] }
    let s := { running (.program .append 4103 [0]) with
      sale := { openSale [] with state := .settled, commit := .pending, print := .done, receipt := some 3 } }
    let u := { s with journal := { s.journal with taken := some x } }
    u.journal.taken = some x ∧ x.programs.length ≤ 1 ∧ x.kind.isSale = true ∧ x.receipt = u.sale.receipt ∧ u.sale.commit = .pending ∧
    programPasses u.journal.array 4103 [0] true = true ∧ (after (.programDone true) u).sale = Sale.idle := by decide +kernel

/-- R173, R177: an erase that has begun on the reader's block answers it NO_RECORD, and a suspended one resumes between two programs. -/
theorem test_between_operations :
    let r : JournalReader := { tag := 9, seq := 1, offset := 0, block := 2, walk := 0, found := none }
    let s := { lane with journal := { roomy with blocks := [(1, .written none), (2, .dirty)], reader := some r } }
    let e : EraseOp := { owner := .eraseAhead, block := 5, suspensions := 1, elapsed := 0 }
    let w := { lane with journal := { roomy with arbiter := { running := none, waiting := [], suspended := some e } } }
    let x : TakenAppend := { kind := .noSale, seq := 1, receipt := none, markValue := none, addr := 4096, length := 12,
                             programs := [(4096, [1]), (4107, [0])] }
    let t := ({ w with journal := { w.journal with taken := some x } } : State).appendProgrammed
    w.betweenOperations.journal.arbiter.running = some (.erase e) ∧
    t.journal.arbiter.suspended = some { e with suspensions := 2 } ∧ t.journal.arbiter.running = some (.program .append 4107 [0]) ∧
    (s.readerAsks r 8192 8).link.replies = [{ kind := 0x17, tag := 9, body := .refused .noRecord }] := by decide +kernel

/-- R168: once its first page is programmed the identity is DAMAGED until the commit byte is. -/
theorem test_identity_is_damaged_meanwhile :
    let w : IdentityWrite := { store := 12, label := [65], erase := false, programs := [(0, [1]), (5, [0])], touched := false }
    let s := { lane with journal := { lane.journal with identity := .blank, identityWrite := some w } }
    s.identityProgrammed.journal.identity = .damaged ∧
    (s.identityProgrammed.identityProgrammed.journal.identity = .written 12 [65]) := by decide +kernel

/-- The bytes of a NO_SALE record of sequence 1 with its commit byte. -/
def record : List Byte := recordBytes .noSale 1 0 [1] ++ [0]

/-- A lane whose journal holds that record. -/
def recorded : State :=
  { lane with journal := { roomy with array := Memory.program [] 4096 record, lastSeq := 1,
                                      blocks := [(1, .written (some (1, 1)))] } }

theorem witness_read_journal :
    recorded.link.reserved = none ∧ recorded.journal.blockOf 1 = some 1 ∧
    findRecord recorded.journal.array 1 1 = some { kind := .noSale, seq := 1, addr := 4096, length := 12 } ∧ 11 < 12 ∧
    recorded.journal.blockOf 2 = none ∧ recorded.journal.isErased 2 = true ∧
    ({ recorded with link := { recorded.link with reserved := some 3 } } : State).link.reserved.isSome = true := by decide +kernel

theorem witness_reader_ends :
    let r : JournalReader := { tag := 9, seq := 1, offset := 0, block := 1, walk := 0, found := some (.noSale, 12) }
    let s := { running (.read .reader 4096 12) with journal := { recorded.journal with
      reader := some r, arbiter := { running := some (.read .reader 4096 12), waiting := [], suspended := none } } }
    s.journal.arbiter.running = some (.read .reader 4096 12) ∧ s.journal.reader = some r ∧ r.found = some (.noSale, 12) ∧
    s.journal.isErased r.block = false := by decide +kernel

theorem witness_scan :
    State.reset.link.part = .starting ∧ State.reset.journal.array = [] ∧ State.reset.journal.level = .normal ∧
    State.reset.journal.queue = [] := by decide +kernel

/-- An array with a SALE and a later MARK in block 1, as the walk finds them. -/
theorem witness_scanned_block :
    let sale := recordBytes .sale 1 100 Sale.idle.recordBody ++ [0]
    let m := Memory.program [] 4096 (sale ++ recordBytes .mark 2 0 ((Append.mark 1).body Sale.idle 100) ++ [0])
    (walkBlock m 1).records.map (fun r => (r.kind, r.seq, r.addr)) = [(.sale, 1, 4096), (.mark, 2, 4096 + sale.length)] ∧
    openRest m 1 = 4096 - sale.length - 18 ∧ natOf (Memory.readBytes m (4096 + 8) 3) = 100 ∧ seqHigher 2 1 = true := by decide +kernel

theorem witness_encodings :
    (HostCommand.configure values).wf = true ∧ readBody ((HostCommand.configure values).body 5) = .command 5 (.configure values) ∧
    ({ sender := 15, body := .claim .drawer 1 60 } : Frame).wf = true ∧
    decodeSlots ({ sender := 15, body := .claim .drawer 1 60 } : Frame).slots = some { sender := 15, body := .claim .drawer 1 60 } := by
  decide +kernel

/-- The lane satisfies the invariants, so a step from it is one of those that the invariants speak of. -/
theorem witness_invariants :
    lane.repliesWf ∧ lane.noticesWf ∧ lane.textWf ∧ lane.arrayWf ∧ lane.sumsWf ∧ lane.boundsWf ∧ step lane = .next lane.tick := by
  refine ⟨⟨by decide +kernel, by decide +kernel⟩, ⟨by decide +kernel, by decide +kernel⟩, by unfold State.textWf; decide +kernel,
    by unfold State.arrayWf; decide +kernel, by unfold State.sumsWf; decide +kernel,
    ⟨by decide +kernel, by decide +kernel, fun c h => by cases h⟩, rfl⟩

/-! ## Single steps -/

theorem test_message_received :
    (after (.messageReceived (goodChar (checkByte [0x14, 9]))) (atCheck lane [0x14, 9])).link.replies =
      [{ kind := 0x14, tag := 9, body := .done (.toneStopped none) }] := by decide +kernel

theorem test_gap_timer :
    (after .linkGapTimer (atCheck crowded [4])).link.notices =
      [.linkError { LinkErrors.clear with gap := true } 3] := by decide +kernel

theorem test_sync_and_body :
    (after (.characterReceived (goodChar 0x7E)) lane).link.assembler.state = .length ∧
    (after (.characterReceived (goodChar 2)) (after (.characterReceived (goodChar 0x7E)) lane)).link.assembler.due = 2 := by
  decide +kernel

theorem test_refused_without_configuration :
    (after (.total 7) unconfigured).link.replies = [{ kind := 4, tag := 7, body := .refused .noConfig }] := by decide +kernel

theorem test_fifth_command_is_held :
    (after (.total 7) crowded).link.assembler.held = some [4, 7] ∧ (after (.total 7) crowded).link.replies = crowded.link.replies := by
  decide +kernel

theorem test_open_sale :
    (after (.openSale 1 7 9) lane).sale = { Sale.idle with state := .opened, reference := 7, stamp := 9 } ∧
    (after (.openSale 1 7 9) lane).link.sending =
      some { chars := messageChars [1, 1, 0, 1, 0, 0, 0, 0, 0, 0, 0, 0, 0, 0, 0, 0, 0], reply := true } := by decide +kernel

theorem test_add_line :
    let t := after (.addLine 1 (fieldsOf 3 125 (some (104, 6)))) (selling (openSale []))
    t.sale.total = 375 ∧ t.sale.due = 375 ∧ t.sale.lines.map (fun l => l.bag) = [.pending] ∧
    t.bagging.entries = [{ line := 0, removal := false, expected := 10, tolerance := 1, age := 0, overdue := false }] := by
  decide +kernel

theorem test_void_line :
    let t := after (.voidLine 1 0) (allowed (selling (openSale [item .pending, item .skipped])))
    t.sale.total = 250 ∧ t.sale.lines.map (fun l => (l.voided, l.bag)) = [(true, .skipped), (false, .skipped)] := by decide +kernel

theorem test_total : (after (.total 1) (selling (openSale [item .bagged]))).sale.state = .tender := by decide +kernel

theorem test_tender_cash :
    let t := after (.tenderCash 1 300) (selling (tenderSale []))
    t.sale.state = .settled ∧ t.sale.change = 50 ∧ t.sale.drawerUsed = true ∧ t.drawer.state = .claiming ∧ t.engine.state = .claiming ∧
    t.journal.queue = [.sale false] := by decide +kernel

theorem test_tender_card :
    let t := after (.tenderCard 1 100 [65]) (holdingCard (selling (tenderSale [])) (cardOf .customer (some [1, 2, 3, 4, 5, 6, 7, 8, 9, 0, 1, 2])))
    t.sale.tenders = [{ kind := .card [42, 42, 42, 42, 42, 42, 42, 42, 57, 48, 49, 50] [65], amount := 100 }] ∧ t.sale.due = 150 ∧
    t.card.held = none := by decide +kernel

theorem test_void_sale :
    let t := after (.voidSale 1) (allowed (selling (openSale [item .pending])))
    t.sale.state = .voided ∧ t.engine.job = some .voidSale ∧ t.journal.queue = [.sale true] ∧ t.drawer.state = .closed := by
  decide +kernel

theorem test_weigh_item :
    (after (.weighItem 1 [65] 1000 1) (selling (openSale []))).sale.reservation = some 15045 ∧
    (after (.weighItem 1 [65] 1000 1) (selling (openSale []))).capture.flight = some (flight true) := by decide +kernel

theorem test_cancel_weigh :
    (after (.cancelWeigh 1) (capturing true)).sale.reservation = none ∧
    (after (.cancelWeigh 1) (capturing true)).capture.flight = none := by decide +kernel

theorem test_restart_scale : (after (.restartScale 1) lane).scale.gen.restart = true := by decide +kernel

theorem test_set_zero : (after (.setZero 1) (platter (readyChannel 0))).scale.produce.weights = [] := by decide +kernel

theorem test_set_tare :
    (after (.setTare 1 (some 8)) (platter (readyChannel 100))).scale.produce.tare = some 2 ∧
    (after (.setTare 1 none) (platter (readyChannel 100))).scale.produce.tare = some 100 := by decide +kernel

theorem test_clear_tare :
    (after (.clearTare 1) (platter { readyChannel 100 with tare := some 7, net := some 93 })).scale.produce.net = some 100 := by
  decide +kernel

theorem test_assist :
    (after (.raiseAssist 1) lane).cluster.out = [{ age := 0, body := .callRaise 0x800 }] ∧
    (after (.withdrawAssist 1) (after (.raiseAssist 1) lane)).cluster.out = [{ age := 0, body := .callClear .withdrawn }] := by
  decide +kernel

theorem test_no_sale :
    let t := after (.noSale 1) (allowed lane)
    t.drawer.state = .claiming ∧ t.drawer.noSaleSource = .card ∧ t.cluster.out = [{ age := 0, body := .claim .drawer 6 6 }] := by
  decide +kernel

theorem test_retry_drawer :
    (after (.retryDrawer 1) (allowed (drawerIn lane { drawer with state := .jammed, jam := some .supply }))).drawer.jam = none := by
  decide +kernel

theorem test_tone :
    (after (.playTone 1 3) lane).tone = some { tone := .chirp, source := .host, elapsed := 0, steps := 0 } ∧
    (after .toneEnd (after (.playTone 1 3) lane)).tone = none ∧ (after .toneEnd (after (.playTone 1 0) lane)).tone.isSome = true := by
  decide +kernel

theorem test_write_identity :
    let t := after (.writeIdentity 1 12 [65]) { unconfigured with journal := { unconfigured.journal with identity := .blank } }
    t.journal.arbiter.running = some (.program .identity 0 (identityBytes 12 [65])) ∧
    (t.journal.identityWrite.map (fun w => w.programs.length)) = some 2 := by decide +kernel

theorem test_identity_round_trip :
    readIdentity (Memory.program [] 0 (identityBytes 12 [65] ++ [0])) = .written 12 [65] ∧
    readIdentity (Memory.program [] 0 (identityBytes 12 [65])) = .damaged ∧ readIdentity [] = .blank := by decide +kernel

theorem test_read_journal :
    (after (.readJournal 3 1 0) recorded).link.reserved = some 3 ∧
    (after (.readJournal 3 1 0) recorded).journal.arbiter.running = some (.read .reader 4096 8) ∧
    (after (.readJournal 3 2 0) recorded).link.replies = [{ kind := 0x17, tag := 3, body := .refused .noRecord }] := by decide +kernel

theorem test_confirm_export :
    (after (.confirmExport 1 1) recorded).journal.queue = [.mark 1] ∧
    (after (.confirmExport 1 2) recorded).journal.queue = [] := by decide +kernel

theorem test_configure :
    let t := after (.configure 1 values) unconfigured
    t.link.part = .running ∧ t.cluster.state = .listen ∧ t.cluster.budget = some 8 ∧ t.scale.produce.state = .warmup ∧
    t.scale.gen.running = true ∧ t.card.prefixes = [[49, 50, 51, 52]] := by decide +kernel

theorem test_lane_reset :
    let t := after (.laneReset 1) (allowed (capturing true))
    t.sale = Sale.idle ∧ t.capture.flight = none ∧ t.authority.window = none ∧ t.scale.bagging.baselineWanted = true := by
  decide +kernel

theorem test_claim_is_taken :
    let t := after (.shareClaim 0 .printer 3 3 .missed) (sending (.claim .printer 3 3))
    t.cluster.printer = { holding := 3, request := .idle, claim := none } ∧ t.cluster.onBus = none := by decide +kernel

theorem test_peer_claim_grows_row :
    (after (.shareClaim 1 .printer 3 10 asSent) shared).cluster.peers = [{ station := 1, printer := 7, drawer := 1 }] ∧
    (after (.shareRelease 1 .printer 5 asSent) shared).cluster.peers = [{ station := 1, printer := 0, drawer := 1 }] := by
  decide +kernel

theorem test_member_vetoes_over_budget_claim :
    (after (.shareClaim 1 .printer 7 10 asSent) shared).cluster.peers = shared.cluster.peers := by decide +kernel

theorem test_expire_and_call :
    (after (.expire 2 1 asSent) shared).cluster.peers = [] ∧
    (after (.callRaise 1 4 asSent) shared).cluster.queue = [{ station := 1, ticket := some 0, reasons := 4 }] ∧
    (after (.callClear 1 .withdrawn asSent) (after (.callRaise 1 4 asSent) shared)).cluster.queue = [] := by decide +kernel

theorem test_frame_with_flipped_slot_is_bad :
    let f : Frame := { sender := 1, body := .callRaise 4 }
    decodeSlots (f.slots.take 20 ++ (f.slots.drop 20).map (fun b => !b)) = none ∧ decodeSlots f.slots = some f := by decide +kernel

theorem test_own_claim_vetoed :
    (after (.frameVetoed { sender := 0, body := .claim .printer 3 3 } .missed) (sending (.claim .printer 3 3))).cluster.printer.request =
      .waiting := by decide +kernel

theorem test_station_timers :
    (after .listenTimer (station (fun c => { c with state := .listen, listen := some 0 }))).cluster.state = .joining ∧
    (after .rollTimer lane).cluster.out = [{ age := 0, body := .roll }] ∧
    (after .retryTimer (station (fun c => { c with state := .lone, retry := some 0 }))).cluster.state = .listen := by decide +kernel

theorem test_forced_cutoff :
    (after .forcedCutoff lane).scale.produce.state = .fault ∧ (after .forcedCutoff lane).cluster.wanted = 0x010 ∧
    (after .forcedCutoff (capturing true)).capture.flight = none := by decide +kernel

/-- R72: a head temperature is held to its range. -/
theorem test_temperature_range : temperatureOf (-21) = -20 ∧ temperatureOf 121 = 120 ∧ temperatureOf 65 = 65 := by decide +kernel

/-- R180: a sent character is its start bit, its data least significant first, odd parity and its stop bit. -/
theorem test_sent_character :
    (sentCharacter 0x7E).bits = [false, false, true, true, true, true, true, true, false, true, true] ∧
    (sentCharacter 1).bits = [false, true, false, false, false, false, false, false, false, false, true] := by decide +kernel

/-- R162: with a full queue the composer stays COMPOSING at the footer. -/
theorem test_footer_waits_for_room :
    let s := fun n : Nat => { lane with
      sale := { openSale [] with state := .settled, commit := .pending, print := .running },
      composer := { lane.composer with state := .composing, kind := some .sale, cursor := some ⟨.footer, 0, 0⟩,
                                       queue := List.replicate n [65] } }
    (s 8).footerReached.composer.state = .composing ∧ (s 7).footerReached.composer.state = .footerWait := by decide +kernel

theorem test_conversion_end :
    let s := { lane with scale := { lane.scale with conv := { lane.scale.conv with converting := some .produce } } }
    (after (.conversionEnd 77) s).scale.produce.positive = some 77 ∧ (after (.conversionEnd 77) s).scale.conv.converting = none := by
  decide +kernel

theorem test_settle_matches_entries :
    let s := { selling (openSale [item .pending, item .pending]) with
      bagging := { entries := [expects 0, expects 1], baseline := some 100, kept := [] } }
    (s.settleEvent 110).sale.lines.map (fun l => l.bag) = [.bagged, .bagged] ∧ (s.settleEvent 110).bagging.baseline = some 110 ∧
    (s.settleEvent 106).sale.lines.map (fun l => l.bag) = [.bagged, .pending] ∧ (s.settleEvent 120).cluster.wanted = 1 := by
  decide +kernel

theorem test_attendant_card :
    let named := { swiping with card := { swiping.card with phase := .decoding, b := { TrackChannel.closed with bits := attendantBits },
                                                            prefixes := [[49, 50, 51, 52]] } }
    (after .decodingEnd named).authority.window = some 0 ∧
    (after .decodingEnd { named with card := { named.card with prefixes := [] } }).card.held.isSome = true := by decide +kernel

theorem test_forced_drawer :
    let s := { lane with sense := lane.sense.setPin .drawer { raw := .second, debounced := .first, count := some 9999 } }
    (after (.debouncedChange .drawer) s).drawer.state = .forced ∧ (after (.debouncedChange .drawer) s).cluster.wanted = 0x020 := by
  decide +kernel

theorem test_drawer_timers :
    (after .pulseTimer (drawerIn lane { drawer with state := .kicking, pulseTimer := some 0 })).drawer.state = .confirm ∧
    (after .confirmTimer (drawerIn lane { drawer with state := .confirm, confirmTimer := some 0 })).drawer.state = .retryGap ∧
    (after .openTimerLong (drawerIn lane { drawer with state := .opened, openTimer := some 0 })).cluster.wanted = 0x080 := by
  decide +kernel

theorem test_passes_and_steps :
    (after .passEnd (engineIn { lane.engine with current := some (rowOfPasses (some [0]) [] false) })).engine.step = some .one ∧
    (after .stepEnd (engineIn { lane.engine with current := some (rowOfPasses none [] true), step := some .two, feedCount := 111 })).engine.state
      = .cutting := by decide +kernel

theorem test_pass_plan :
    passPlan (passSize 3) (List.range 70) = [List.range 32, (List.range 32).map (· + 32), [64, 65, 66, 67, 68, 69]] ∧
    passPlan 32 [] = [] := by decide +kernel

theorem test_cut_timer :
    (after .cutTimer (engineIn { lane.engine with state := .cutting, cutTimer := some 0, job := some .sale })).engine.state = .idle ∧
    (after .cutTimer (engineIn { lane.engine with state := .cutting, cutTimer := some 0, job := some .sale })).cluster.wanted = 0x200 := by
  decide +kernel

theorem test_place_line :
    (after .placeLine (composing [[72]] ⟨.header, 0, 0⟩)).composer.queue = [centred [72]] ∧
    (after .placeLine (composing [[72]] ⟨.header, 0, 0⟩)).composer.cursor = some ⟨.store, 0, 0⟩ := by decide +kernel

theorem test_item_line_text :
    (item .accepted).text 2 0 =
      [65, 32, 32, 32, 32, 32, 32, 32, 32, 32, 32, 32, 32, 32, 32, 32, 32, 32, 32, 32, 32, 32, 32, 32, 32, 65, 67, 80, 84, 32, 32, 32, 32, 32,
       32, 32, 32, 32, 50, 46, 53, 48] := by decide +kernel

theorem test_take_append :
    let t := after .takeAppend { lane with journal := { roomy with queue := [.noSale .card] } }
    (t.journal.taken.map (fun x => (x.seq, x.addr, x.length))) = some (1, 4096, 12) ∧ t.journal.rest = 4084 := by decide +kernel

theorem test_append_commits :
    let t := after .takeAppend { lane with journal := { roomy with queue := [.noSale .card] } }
    let u := after (.programDone true) (after (.programDone true) t)
    u.journal.lastSeq = 1 ∧ u.journal.taken = none ∧ findRecord u.journal.array 1 1 = findRecord recorded.journal.array 1 1 := by
  decide +kernel

theorem test_failed_program :
    (after (.programDone false) (running (.program .append 4096 [1, 2]))).journal.level = .fault := by decide +kernel

theorem test_erase_ahead :
    let s := { lane with journal := { roomy with blocks := [(1, .written none), (2, .dirty)], array := [(8192, 7), (12288, 9)] } }
    (after (.eraseDone true) (after .eraseAheadStart s)).journal.array = [(12288, 9)] ∧
    (after (.eraseDone true) (after .eraseAheadStart s)).journal.blocks = [(1, .written none)] := by decide +kernel

/-- R92, R103, R189: the interlock's SET is its first position, and a field that other results carry is absent. -/
theorem test_position_and_presence :
    interlockByte true = [0] ∧ interlockByte false = [1] ∧
    BaggingResult.bytes .atBaseline = [0, 0, 0, 0, 0, 0, 0, 0, 0, 0] ∧
    BaggingResult.bytes (.matched [3, 4]) = [1, 1, 2, 3, 4, 0, 0, 0, 0, 0, 0, 0] ∧
    BaggingResult.bytes (.removed (-2)) = [4, 0, 0, 1, 255, 254, 0, 0, 0, 0] := by decide +kernel

/-- R176: a hand-over enters FULL, and judges nothing else; the erase of block 0 does. -/
theorem test_hand_over_and_level :
    let near := { lane.journal with writeBlock := 1, rest := 0, blocks := [(1, .written none), (4, .written (some (1, 5)))] }
    let stuck := { near with blocks := [(1, .written none), (2, .written (some (1, 5)))] }
    (State.handOver { lane with journal := near } (.noSale .card)).journal.level = .normal ∧
    (State.handOver { lane with journal := stuck } (.noSale .card)).journal.level = .full ∧
    (after (.eraseDone true) { lane with journal := { near with
      arbiter := { near.arbiter with running := some (.erase { owner := .identity, block := 0, suspensions := 0, elapsed := 0 }) } } }).journal.level
      = .nearFull := by decide +kernel

/-- R164: a record of 120 bytes with 65 lines has failed with its first 96 bytes; the other 24 are read before the footer. -/
theorem test_copy_is_read_to_its_end :
    let bytes : List Byte := [startMark, 1, 0, 120, 0, 0, 0, 1, 0, 0, 1, 0, 0, 0, 0, 0, 0, 0, 0, 65] ++ List.replicate 76 0
    let s := { composing [] ⟨.reference, 0, 0⟩ with
      composer := { (composing [] ⟨.reference, 0, 0⟩).composer with
        kind := some .copy, copy := some { seq := 1, addr := 4096, check := .unknown, bytes := bytes, reading := false } } }
    let t := after .placeLine s
    t.composer.queue = [centred textUnreadable] ∧ t.lineAtCursor = none ∧
    t.journal.arbiter.running = some (.read .copy 4192 24) ∧ (after .placeLine t).composer.queue = t.composer.queue ∧
    (after .readDone t).lineAtCursor = some (centred textCheckFailed) := by decide +kernel

/-- R19, R172: a SALE that could be placed stays in FULL, and the MARK behind it is taken. -/
theorem test_sale_stays_in_full :
    let j := { roomy with level := .full, lastSeq := 5, blocks := [(1, .written none), (3, .written (some (1, 5)))],
                          queue := [.sale false, .mark 4] }
    j.placeable Sale.idle (.sale false) = true ∧ j.targetBlocked = true ∧ j.takeable Sale.idle = some (.mark 4) ∧
    ({ j with queue := [.sale false] } : Journal).takeable Sale.idle = none ∧
    ({ j with queue := [.noSale .card] } : Journal).takeable Sale.idle = some (.noSale .card) := by decide +kernel

/-- R39, R41: with nothing left to merge into the RELEASE on the bus, a release request withdraws a pending claim at once. -/
theorem test_release_withdraws_the_claim_at_once :
    let s := sending (.release .printer 4)
    let c := { s.cluster with out := [{ age := 0, body := .release .printer 4 }, { age := 1, body := .claim .printer 3 10 }],
                              printer := { holding := 4, request := .idle, claim := none } }
    (c.requestRelease .printer).out = [{ age := 0, body := .release .printer 4 }] ∧ (c.requestRelease .printer).heldRequests = [] ∧
    (let d := { c with printer := { c.printer with holding := 7 } }
     (d.requestRelease .printer).heldRequests = [.release .printer] ∧ (d.requestRelease .printer).out = d.out) := by decide +kernel

/-- R114, R115, R189: CARD ERROR gives each status its index behind a presence byte, and CARD OVERRUN each status alone. -/
theorem test_card_notices :
    Notice.payload none (.cardError .forward (.parity 7) .noEnd) = [0, 4, 1, 7, 2, 0, 0] ∧
    (Notice.payload none (.cardOverrun .customer .good (.parity 7))).drop 1 = [6, 4] := by decide +kernel

/-- R31: the slot inserted after the last slot of the arbitration field (class 5, station 8) is behind the field: read dominant, it is a
mismatch. -/
theorem test_inserted_slot_behind_the_field :
    let f : Frame := { sender := 8, body := .claim .printer 3 3 }
    let flip := fun k : Nat => Reading.slots (f.slots.zipIdx.map (fun x => if x.2 = k then !x.1 else x.1))
    f.slots.take 10 = [false, false, true, false, true, true, false, false, false, true] ∧ f.arbitrationSlots = 9 ∧
    (flip 9).differsAt f = some 9 ∧ (flip 9).losesArbitration f = false ∧ (flip 5).losesArbitration f = true := by decide +kernel

/-- R186: READ STATUS reports the produce net in a state without a displayed net too. -/
theorem test_status_net :
    let c := { readyChannel 0 with state := .overload, net := some 3010 }
    c.displayedNet = none ∧ (platter c).statusReport.net = some 15050 ∧ lane.statusReport.net = none := by decide +kernel

theorem test_check_words :
    crcBits (bitsOfBytes [49, 50, 51, 52, 53, 54, 55, 56, 57]) = 0x29B1 ∧ checkByte [4, 1] = 0xF9 := by decide +kernel

theorem test_scan_of_an_erased_array :
    (after .scanEnd State.reset).link.part = .unconfigured ∧ (after .scanEnd State.reset).journal.identity = .blank ∧
    (after .scanEnd State.reset).journal.writeBlock = 1023 := by decide +kernel

theorem test_idle_step_counts :
    (match step (drawerIn lane { drawer with state := .confirm, confirmTimer := some 7 }) with
     | .next t => t.drawer.confirmTimer
     | _ => none) = some 8 := by decide +kernel

end Sys2Proof.Tests
end

section
/-! SUPPORT. The scale front end and the weighing commands (Chapter 4), and the judging of bagging weights (Chapter 5): what each operation of
the model does, stated once, and the statements O23 to O28 and O60 settled from it. -/

namespace Sys2Proof.Machine.ScaleFrontEnd

/-! ## The rows of the scale, and a command handed over -/

section rows
variable (s : State)

theorem exec_periodBoundary : exec .periodBoundary s = .next s.periodBoundary.finish := rfl

theorem exec_negativeHalfStart :
    exec .negativeHalfStart s = .next (s.setScale { s.scale with gen := s.scale.gen.negativeHalf }).finish := rfl

theorem exec_deadTimeEnd :
    exec .deadTimeEnd s = .next (s.setScale { s.scale with gen := s.scale.gen.driveBegins }).finish := rfl

theorem exec_settlePoint : exec .settlePoint s = .next (s.setScale s.scale.settlePoint).finish := rfl

theorem exec_forcedCutoff : exec .forcedCutoff s = .next (s.bridgeChanges .fault).finish := rfl

theorem exec_bridgeFaultToNormal (l : BridgeLevel) : exec (.bridgeFaultToNormal l) s = .next (s.bridgeChanges l).finish := rfl

theorem exec_conversionEnd (z : Int) : exec (.conversionEnd z) s = .next (s.conversionEnds z).finish := rfl

end rows

/-- R182: the outcome of a command's row, from what its rule leaves and the reply it forms. -/
theorem answer_arrive {s t : State} {tag : Byte} {c : HostCommand} {b : ReplyBody} (hover : s.handsOver)
    (hperform : s.perform tag c = (t, some b)) : answer (s.arrive tag c) = .next (t.reply c.kind tag b).finish := by
  rw [arrive_taken s tag c hover.1 hover.2, State.takeCommand, hperform]
  rfl

/-- R182: the outcome of a command that needs the part RUNNING, while it is. -/
theorem answer_arrive_running {s t : State} {tag : Byte} {c : HostCommand} {b : ReplyBody} {f : State → Taken} (h : s.takesCommands)
    (hperform : s.perform tag c = s.whenRunning f) (hf : f s = (t, some b)) :
    answer (s.arrive tag c) = .next (t.reply c.kind tag b).finish :=
  answer_arrive h.2 (by rw [hperform, whenRunning_running s f h.1, hf])

/-- R182: the reply formed by a step stands at the tail of the reply list at its end. -/
theorem finish_reply_replies (s : State) (k t : Byte) (b : ReplyBody) :
    (s.reply k t b).finish.link.replies = s.link.replies ++ [{ kind := k, tag := t, body := b }] := by
  rw [finish_link, Link.pump_replies, reply_link]

/-! ## The own wanted set (R64) -/

@[simp] theorem requestCall_wanted (c : Cluster) (b : OutBody) : (c.requestCall b).wanted = c.wanted := by
  unfold Cluster.requestCall Cluster.applyCall Cluster.replaceOut
  split
  · rfl
  · split <;> rfl

@[simp] theorem loneCall_wanted (c : Cluster) (r : Reasons) : (c.loneCall r).wanted = c.wanted := by
  unfold Cluster.loneCall Cluster.applyRaise
  split
  · rfl
  · split <;> rfl

@[simp] theorem provisionalCall_wanted (c : Cluster) (r : Reasons) : (c.provisionalCall r).wanted = c.wanted := by
  unfold Cluster.provisionalCall
  split
  · rfl
  · split <;> rfl

/-- In every station state a change of the wanted set to `r` leaves it at `r`. -/
@[simp] theorem wantedChanged_wanted (c : Cluster) (r : Reasons) (b : OutBody) : (c.wantedChanged r b).wanted = r := by
  unfold Cluster.wantedChanged
  cases c.state <;> simp

@[simp] theorem updateCluster_cluster (s : State) (c : Cluster) : (s.updateCluster c).cluster = c := by
  unfold State.updateCluster
  split <;> rfl

@[simp] theorem setWanted_wanted (s : State) (r : Reasons) : (s.setWanted r).cluster.wanted = r := by
  unfold State.setWanted
  split
  · next h => exact h.symm
  · simp

@[simp] theorem raise_wanted (s : State) (r : CallReason) : (s.raise r).cluster.wanted = s.cluster.wanted.add r :=
  setWanted_wanted s _

@[simp] theorem withdraw_wanted (s : State) (r : CallReason) : (s.withdraw r).cluster.wanted = s.cluster.wanted.remove r :=
  setWanted_wanted s _

/-! ## The WEIGHT notice (R84) writes the lane link and what the last one carried -/

section weightNotice
variable (s : State)

@[simp] theorem weightNotice_scale : s.weightNotice.scale = { s.scale with lastReport := some s.scale.report } := rfl
@[simp] theorem weightNotice_sale : s.weightNotice.sale = s.sale := rfl
@[simp] theorem weightNotice_cluster : s.weightNotice.cluster = s.cluster := rfl
@[simp] theorem weightNotice_capture : s.weightNotice.capture = s.capture := rfl
@[simp] theorem weightNotice_bagging : s.weightNotice.bagging = s.bagging := rfl
@[simp] theorem weightNotice_drawer : s.weightNotice.drawer = s.drawer := rfl
@[simp] theorem weightNotice_engine : s.weightNotice.engine = s.engine := rfl
@[simp] theorem weightNotice_journal : s.weightNotice.journal = s.journal := rfl

@[simp] theorem weightNotice_replies : s.weightNotice.link.replies = s.link.replies := by
  simp [State.weightNotice, notice_link]

end weightNotice

/-- A WEIGHT notice was placed or it was not: `t` is `s` up to the lane link and the last report. -/
def SameUpToReport (s t : State) : Prop := t = s ∨ t = s.weightNotice

namespace SameUpToReport
variable {s t : State} (h : SameUpToReport s t)
include h

theorem gen : t.scale.gen = s.scale.gen := by rcases h with rfl | rfl <;> rfl
theorem conv : t.scale.conv = s.scale.conv := by rcases h with rfl | rfl <;> rfl
theorem produce : t.scale.produce = s.scale.produce := by rcases h with rfl | rfl <;> rfl
theorem baggingChannel : t.scale.bagging = s.scale.bagging := by rcases h with rfl | rfl <;> rfl
theorem sale : t.sale = s.sale := by rcases h with rfl | rfl <;> rfl
theorem cluster : t.cluster = s.cluster := by rcases h with rfl | rfl <;> rfl
theorem capture : t.capture = s.capture := by rcases h with rfl | rfl <;> rfl
theorem bagging : t.bagging = s.bagging := by rcases h with rfl | rfl <;> rfl
theorem drawer : t.drawer = s.drawer := by rcases h with rfl | rfl <;> rfl
theorem engine : t.engine = s.engine := by rcases h with rfl | rfl <;> rfl
theorem journal : t.journal = s.journal := by rcases h with rfl | rfl <;> rfl

end SameUpToReport

theorem weightNoticeIfChanged_same (s : State) (before : Scale) : SameUpToReport s (s.weightNoticeIfChanged before) := by
  unfold State.weightNoticeIfChanged
  split
  · exact .inl rfl
  · exact .inr rfl

theorem weightNoticeIfNet_same (s : State) (before : Option Int) : SameUpToReport s (s.weightNoticeIfNet before) := by
  unfold State.weightNoticeIfNet
  split
  · exact .inl rfl
  · exact .inr rfl

/-! ## RESTART SCALE and the restart (R70) -/

theorem restartScale_of_fault (s : State) (h : s.scale.gen.bridge = .fault) : s.restartScale = s.refuse .badState := by
  simp [State.restartScale, h]

theorem restartScale_of_normal (s : State) (h : s.scale.gen.bridge = .normal) :
    s.restartScale = (s.setScale { s.scale with gen := { s.scale.gen with restart := true } }).done .nothing := by
  simp [State.restartScale, h]

theorem periodBoundary_of_restart (s : State) (u : Nat) (htimer : s.scale.gen.timer = some u) (hmark : s.scale.gen.restart = true) :
    s.periodBoundary = s.restartTakesEffect := by
  simp [State.periodBoundary, htimer, hmark]

/-- R70: the scale front end as a restart leaves it. -/
def restartedScale (c : Scale) : Scale :=
  { c with gen := { c.gen with running := true, restart := false, phase := .positiveDead, timer := some 0 },
           produce := c.produce.restarted, bagging := c.bagging.restarted }

/-- A restart is the scale's own restart and the withdrawal of SCALE_FAULT, with a WEIGHT notice where a state has changed. -/
theorem restartTakesEffect_same (s : State) :
    SameUpToReport ((s.setScale (restartedScale s.scale)).withdraw .scaleFault) s.restartTakesEffect :=
  weightNoticeIfChanged_same _ _

/-- Settles O23: the checks of RESTART SCALE are its branches, and the boundary that follows restarts both channels. -/
theorem restartScaleRestarts : Obligations.RestartScaleRestarts := by
  unfold Obligations.RestartScaleRestarts
  refine ⟨fun s tag htakes hfault => ?_, fun s tag htakes hnormal => ?_, fun s u htimer hmark => ?_⟩
  · exact answer_arrive_running (c := .restartScale) htakes rfl (restartScale_of_fault s hfault)
  · exact answer_arrive_running (c := .restartScale) htakes rfl (restartScale_of_normal s hnormal)
  · have same := restartTakesEffect_same s
    refine ⟨_, exec_periodBoundary s, ?_⟩
    rw [periodBoundary_of_restart s u htimer hmark]
    simp [same.gen, same.produce, same.baggingChannel, same.cluster, same.sale, same.capture, same.bagging, same.journal,
      restartedScale, Channel.restarted, Channel.emptied]

/-! ## The points of an excitation period (R68, R71) -/

theorem periodBoundary_of_running (s : State) (u : Nat) (htimer : s.scale.gen.timer = some u) (hmark : s.scale.gen.restart = false)
    (hrun : s.scale.gen.running = true) : s.periodBoundary = s.setScale s.scale.newPeriod := by
  simp [State.periodBoundary, htimer, hmark, hrun]

theorem negativeHalf_of_running (g : Generator) (hrun : g.running = true) : g.negativeHalf = { g with phase := .negativeDead } := by
  simp [Generator.negativeHalf, hrun]

theorem driveBegins_of_positiveDead (g : Generator) (hrun : g.running = true) (h : g.phase = .positiveDead) :
    g.driveBegins = { g with phase := .positiveDrive } := by
  simp [Generator.driveBegins, hrun, h]

theorem driveBegins_of_negativeDead (g : Generator) (hrun : g.running = true) (h : g.phase = .negativeDead) :
    g.driveBegins = { g with phase := .negativeDrive } := by
  simp [Generator.driveBegins, hrun, h]

/-- R71: both requests raised at an idle converter: the produce channel's is granted, the bagging channel's waits. -/
theorem settlePoint_of_idle (c : Scale) (hrun : c.gen.running = true) (hidle : c.conv.converting = none) :
    c.settlePoint =
      { c with conv := { c.conv with produce := false, bagging := true, converting := some .produce, discard := false } } := by
  simp [Scale.settlePoint, hrun, Converter.grant, hidle]

/-- R71: both requests raised at a busy converter wait. -/
theorem settlePoint_of_converting (c : Scale) (w : Requester) (hrun : c.gen.running = true) (hbusy : c.conv.converting = some w) :
    c.settlePoint = { c with conv := { c.conv with produce := true, bagging := true } } := by
  simp [Scale.settlePoint, hrun, Converter.grant, hbusy]

/-- Settles O26: each point of the period is one branch of its rule. -/
theorem periodRunsThroughItsPoints : Obligations.PeriodRunsThroughItsPoints := by
  unfold Obligations.PeriodRunsThroughItsPoints
  intro s u hrun htimer
  refine ⟨fun hmark => ?_, ?_, fun hpos => ?_, fun hneg => ?_, fun hidle => ?_, fun w hbusy => ?_⟩
  · rw [exec_periodBoundary, periodBoundary_of_running s u htimer hmark hrun]; rfl
  · rw [exec_negativeHalfStart, negativeHalf_of_running _ hrun]; rfl
  · rw [exec_deadTimeEnd, driveBegins_of_positiveDead _ hrun hpos]; rfl
  · rw [exec_deadTimeEnd, driveBegins_of_negativeDead _ hrun hneg]; rfl
  · rw [exec_settlePoint, settlePoint_of_idle _ hrun hidle]; rfl
  · rw [exec_settlePoint, settlePoint_of_converting _ w hrun hbusy]; rfl

/-! ## A forced cutoff (R69) -/

@[simp] theorem endCapture_flight (s : State) (o : CaptureOutcome) : (s.endCapture o).capture.flight = none := by
  unfold State.endCapture
  split
  · next h => exact h
  · rfl

@[simp] theorem endCapture_interlock (s : State) (o : CaptureOutcome) :
    (s.endCapture o).capture.interlock = s.capture.interlock := by
  unfold State.endCapture
  split <;> rfl

@[simp] theorem endCapture_lines (s : State) (o : CaptureOutcome) : (s.endCapture o).sale.lines = s.sale.lines := by
  unfold State.endCapture
  split <;> rfl

/-- R69: a change of the BRIDGE_FAULT input that is no forced cutoff moves the level only. -/
theorem bridgeChanges_of_quiet (s : State) (l : BridgeLevel) (h : l = .normal ∨ s.scale.gen.running = false) :
    s.bridgeChanges l = s.setScale { s.scale with gen := { s.scale.gen with bridge := l } } := by
  cases l with
  | normal => rfl
  | fault =>
    obtain h | hstopped := h
    · cases h
    · simp [State.bridgeChanges, hstopped]

/-- R69: BRIDGE_FAULT to FAULT while the generator runs is a forced cutoff. -/
theorem bridgeChanges_of_running (s : State) (hrun : s.scale.gen.running = true) :
    s.bridgeChanges .fault = (s.setScale { s.scale with gen := { s.scale.gen with bridge := .fault } }).forcedCutoff := by
  simp [State.bridgeChanges, hrun]

/-- R69: the scale front end as a forced cutoff leaves it. -/
def cutOffScale (c : Scale) : Scale :=
  { c with gen := { c.gen with running := false, restart := false, phase := .positiveDead }, conv := c.conv.cutScale,
           produce := c.produce.cutOff, bagging := c.bagging.baggingCutOff }

/-- A forced cutoff cuts the scale off, raises SCALE_FAULT and then ends a capture in flight, with a WEIGHT notice where a state has
changed. -/
theorem forcedCutoff_eq (s : State) :
    ∃ t, SameUpToReport ((s.setScale (cutOffScale s.scale)).raise .scaleFault) t ∧ s.forcedCutoff = t.endCapture .fault :=
  ⟨_, weightNoticeIfChanged_same _ _, rfl⟩

/-- Settles O27: a change of the input is a forced cutoff exactly with the generator running and the level FAULT. -/
theorem bridgeFaultCutsOff : Obligations.BridgeFaultCutsOff := by
  unfold Obligations.BridgeFaultCutsOff
  refine ⟨fun s hrun => ?_, fun s hstopped => ?_, fun s l hquiet => ?_⟩
  · obtain ⟨t, same, hcut⟩ := forcedCutoff_eq (s.setScale { s.scale with gen := { s.scale.gen with bridge := .fault } })
    refine ⟨_, exec_forcedCutoff s, ?_⟩
    rw [bridgeChanges_of_running s hrun, hcut]
    simp [same.gen, same.conv, same.produce, same.baggingChannel, same.cluster, same.capture, same.sale, same.journal,
      cutOffScale, Channel.cutOff, Channel.baggingCutOff, Channel.emptied, Converter.cutScale]
  · rw [exec_forcedCutoff, bridgeChanges_of_quiet s .fault (.inr hstopped)]; rfl
  · rw [exec_bridgeFaultToNormal, bridgeChanges_of_quiet s l hquiet]; rfl

/-! ## SET ZERO (R80) -/

section setZero
variable {s : State}

theorem setZero_of_capture {c : CaptureRec} (h : s.capture.flight = some c) : s.setZero = s.refuse .busy := by
  simp [State.setZero, h]

theorem setZero_of_not_ready (hfree : s.capture.flight = none) (h : s.scale.produce.state ≠ .ready) :
    s.setZero = s.refuse .badState := by
  simp [State.setZero, hfree, h]

theorem setZero_of_moving (hfree : s.capture.flight = none) (hready : s.scale.produce.state = .ready)
    (h : s.scale.produce.stable = false) : s.setZero = s.refuse .busy := by
  simp [State.setZero, hfree, hready, h]

/-- Every check of SET ZERO but the last has passed: the offset from the initial zero decides. -/
theorem setZero_of_stable {f : Int} (hfree : s.capture.flight = none) (hready : s.scale.produce.state = .ready)
    (hstable : s.scale.produce.stable = true) (hfilt : s.scale.produce.filtered = some f) :
    s.setZero =
      if s.scale.produce.offsetAllowed f then
        (s.setScale { s.scale with produce := { s.scale.produce with
          zeroRef := f, tare := none, weights := [], stable := false, gross := some 0, net := some 0 } }).done (.gross 0)
      else s.refuse .range := by
  simp [State.setZero, hfree, hready, hstable, hfilt]

end setZero

/-- R80: an offset is allowed exactly within 60 divisions of the initial zero. -/
theorem offsetAllowed_iff {c : Channel} {z : Int} (f : Int) (h : c.initialZero = some z) :
    c.offsetAllowed f = true ↔ -60 ≤ c.weightFrom f z ∧ c.weightFrom f z ≤ 60 := by
  simp [Channel.offsetAllowed, h]

/-- Settles O24: the checks of SET ZERO in the order of its branches, and the channel that it leaves. -/
theorem setZeroTakesTheLoad : Obligations.SetZeroTakesTheLoad := by
  unfold Obligations.SetZeroTakesTheLoad
  intro s tag hover
  have refused {r : RefusalReason} (hrun : s.link.part = .running) (h : s.setZero = s.refuse r) : s.turnsAway (.setZero tag) 0x0B tag r :=
    answer_arrive_running (c := .setZero) ⟨hrun, hover⟩ rfl h
  refine ⟨fun hpart => answer_arrive (c := .setZero) hover (whenRunning_not_running s _ hpart), fun hrun => ?_⟩
  refine ⟨fun c hflight => refused hrun (setZero_of_capture hflight), fun hfree => ?_⟩
  refine ⟨fun hstate => refused hrun (setZero_of_not_ready hfree hstate), fun hready => ?_⟩
  refine ⟨fun hmoving => refused hrun (setZero_of_moving hfree hready hmoving), fun hstable f z hfilt hzero => ?_⟩
  have hset := setZero_of_stable hfree hready hstable hfilt
  refine ⟨fun hout => refused hrun ?_, fun hlo hhi => ?_⟩
  · rw [hset, if_neg]
    rw [offsetAllowed_iff f hzero]
    omega
  · rw [if_pos ((offsetAllowed_iff f hzero).mpr ⟨hlo, hhi⟩)] at hset
    refine ⟨_, answer_arrive_running (c := .setZero) ⟨hrun, hover⟩ rfl hset, ?_⟩
    rw [finish_reply_replies]
    simp [hready, hzero, HostCommand.kind]

/-! ## SET TARE and CLEAR TARE (R81, R82) -/

section tare
variable {s : State}

theorem setTare_of_capture {c : CaptureRec} (p : Option Nat) (h : s.capture.flight = some c) : s.setTare p = s.refuse .busy := by
  simp [State.setTare, h]

theorem clearTare_of_capture {c : CaptureRec} (h : s.capture.flight = some c) : s.clearTare = s.refuse .busy := by
  simp [State.clearTare, h]

/-- R81: a weight stands to set a preset tare against in READY, OVERLOAD and UNDERLOAD. -/
theorem weighs_iff (st : ChannelState) : st.weighs = true ↔ st = .ready ∨ st = .overload ∨ st = .underload := by
  cases st <;> simp [ChannelState.weighs]

theorem setTare_preset_of_not_weighing (g : Nat) (hfree : s.capture.flight = none) (h : s.scale.produce.state.weighs = false) :
    s.setTare (some g) = s.refuse .badState := by
  simp [State.setTare, hfree, h]

/-- A preset tare at a weighing channel: its range decides. -/
theorem setTare_preset_of_weighing (g : Nat) (hfree : s.capture.flight = none) (h : s.scale.produce.state.weighs = true) :
    s.setTare (some g) =
      if g < 1 ∨ 15000 < g ∨ gramsToDivisions g 5 < 1 then s.refuse .range else s.takeTare (gramsToDivisions g 5) := by
  simp [State.setTare, hfree, h]

theorem setTare_platter_of_not_ready (hfree : s.capture.flight = none) (h : s.scale.produce.state ≠ .ready) :
    s.setTare none = s.refuse .badState := by
  simp [State.setTare, hfree, h]

theorem setTare_platter_of_moving (hfree : s.capture.flight = none) (hready : s.scale.produce.state = .ready)
    (h : s.scale.produce.stable = false) : s.setTare none = s.refuse .busy := by
  simp [State.setTare, hfree, hready, h]

/-- The platter's tare at a stable channel: the range of its gross decides. -/
theorem setTare_platter_of_stable {gross : Int} (hfree : s.capture.flight = none) (hready : s.scale.produce.state = .ready)
    (hstable : s.scale.produce.stable = true) (hgross : s.scale.produce.gross = some gross) :
    s.setTare none = if gross ≤ 0 ∨ 3000 < gross then s.refuse .range else s.takeTare gross.toNat := by
  simp [State.setTare, hfree, hready, hstable, hgross]

theorem clearTare_of_free (hfree : s.capture.flight = none) :
    s.clearTare = s.clearTareNow.done (.net s.clearTareNow.scale.produce.netGrams) := by
  simp [State.clearTare, hfree]

end tare

/-- R82: the tare goes and the net becomes the gross, with a WEIGHT notice where the displayed net has changed. -/
theorem clearTareNow_same (s : State) :
    SameUpToReport (s.setScale { s.scale with produce := { s.scale.produce with tare := none, net := s.scale.produce.gross } })
      s.clearTareNow :=
  weightNoticeIfNet_same _ _

/-- R81: what a tare of `d` divisions taken leaves once its reply has been formed and the step has ended. -/
theorem takeTare_effect {s : State} {tag : Byte} {p : Option Nat} {d : Nat} (htakes : s.takesCommands)
    (htare : s.setTare p = s.takeTare d) :
    ∃ t, exec (.setTare tag p) s = .next t ∧ t.scale.produce.tare = some d ∧
      t.scale.produce.zeroRef = s.scale.produce.zeroRef ∧ t.scale.bagging = s.scale.bagging ∧ t.sale = s.sale ∧
      t.capture = s.capture ∧ t.cluster = s.cluster ∧ t.journal = s.journal ∧
      (∀ gross, s.scale.produce.gross = some gross →
        t.link.replies = s.link.replies ++ [{ kind := 0x0C, tag := tag, body := .done (.tare (d * 5) ((gross - (d : Int)) * 5)) }]) := by
  refine ⟨_, answer_arrive_running (c := .setTare p) htakes rfl htare, rfl, rfl, rfl, rfl, rfl, rfl, rfl, fun gross hgross => ?_⟩
  rw [finish_reply_replies, hgross]
  rfl

/-- Settles O25: the checks of SET TARE in the order of its branches for a preset and for the platter, CLEAR TARE, and both during a
capture. -/
theorem tareIsSetAndCleared : Obligations.TareIsSetAndCleared := by
  unfold Obligations.TareIsSetAndCleared
  have refused {s : State} {p : Option Nat} (tag : Byte) {r : RefusalReason} (htakes : s.takesCommands) (h : s.setTare p = s.refuse r) :
      s.turnsAway (.setTare tag p) 0x0C tag r :=
    answer_arrive_running (c := .setTare p) htakes rfl h
  refine ⟨fun s tag g htakes hfree => ?preset, fun s tag htakes hfree => ?platter, fun s tag htakes hfree => ?clear,
    fun s tag c p htakes hflight => ?busy⟩
  case preset =>
    refine ⟨fun hr ho hu => ?_, fun hstate => ?_⟩
    · refine refused tag htakes (setTare_preset_of_not_weighing g hfree ?_)
      rw [← Bool.not_eq_true, weighs_iff]
      simp [hr, ho, hu]
    · have hset := setTare_preset_of_weighing g hfree ((weighs_iff _).mpr hstate)
      refine ⟨fun hout => refused tag htakes (by rw [hset, if_pos hout]), fun hlo hhi hdiv => takeTare_effect htakes ?_⟩
      rw [hset, if_neg]
      omega
  case platter =>
    refine ⟨fun hstate => refused tag htakes (setTare_platter_of_not_ready hfree hstate), fun hready => ?_⟩
    refine ⟨fun hmoving => refused tag htakes (setTare_platter_of_moving hfree hready hmoving), fun hstable gross hgross => ?_⟩
    have hset := setTare_platter_of_stable hfree hready hstable hgross
    refine ⟨fun hout => refused tag htakes (by rw [hset, if_pos hout]), fun hlo hhi => ?_⟩
    rw [if_neg (by omega)] at hset
    obtain ⟨t, hexec, htare, hzero, hbag, hsale, hcap, hclu, hjou, hreplies⟩ := takeTare_effect (tag := tag) htakes hset
    have hnet : (gross - (gross.toNat : Int)) * 5 = 0 := by omega
    exact ⟨t, hexec, htare, hzero, hbag, hsale, hcap, hclu, hjou, hnet ▸ hreplies gross hgross⟩
  case clear =>
    have same := clearTareNow_same s
    refine ⟨_, answer_arrive_running (c := .clearTare) htakes rfl (clearTare_of_free hfree), ?_⟩
    simp [same.produce, same.baggingChannel, same.sale, same.capture, same.cluster, same.journal]
  case busy =>
    exact ⟨refused tag htakes (setTare_of_capture p hflight),
      answer_arrive_running (c := .clearTare) htakes rfl (clearTare_of_capture hflight)⟩

/-! ## A temperature result reaches the print engine alone (R141, R147) -/

/-- What the print engine's row start can leave as it was, of what O28 reads: the head temperature, the channels, the sale, the capture and
the array. -/
structure EngineFrame (s t : State) : Prop where
  headTemp : t.engine.headTemp = s.engine.headTemp
  produce : t.scale.produce = s.scale.produce
  baggingChannel : t.scale.bagging = s.scale.bagging
  sale : t.sale = s.sale
  capture : t.capture = s.capture
  array : t.journal.array = s.journal.array

namespace EngineFrame

theorem refl (s : State) : EngineFrame s s := ⟨rfl, rfl, rfl, rfl, rfl, rfl⟩

theorem after {s t u : State} (k : EngineFrame t u) (h : EngineFrame s t) : EngineFrame s u :=
  ⟨k.headTemp.trans h.headTemp, k.produce.trans h.produce, k.baggingChannel.trans h.baggingChannel, k.sale.trans h.sale,
    k.capture.trans h.capture, k.array.trans h.array⟩

theorem setEngine (s : State) {e : Engine} (h : e.headTemp = s.engine.headTemp) : EngineFrame s (s.setEngine e) :=
  ⟨h, rfl, rfl, rfl, rfl, rfl⟩

theorem setCluster (s : State) (c : Cluster) : EngineFrame s (s.setCluster c) := ⟨rfl, rfl, rfl, rfl, rfl, rfl⟩

theorem requestTemperature (s : State) : EngineFrame s s.requestTemperature := ⟨rfl, rfl, rfl, rfl, rfl, rfl⟩

theorem putEngine (s : State) {e : Engine} (x : Option JobOutcome) (h : e.headTemp = s.engine.headTemp) :
    EngineFrame s (s.putEngine e x) := by
  unfold State.putEngine
  dsimp only
  split <;> exact ⟨h, rfl, rfl, rfl, rfl, rfl⟩

theorem engineTo (s : State) (st : EngineState) : EngineFrame s (s.engineTo st) := putEngine s none rfl

theorem setComposer (s : State) (c : Composer) : EngineFrame s (s.setComposer c) := ⟨rfl, rfl, rfl, rfl, rfl, rfl⟩

theorem footerReached (s : State) : EngineFrame s s.footerReached := by
  obtain ⟨st, h⟩ := footerReached_eq s
  exact h ▸ setComposer s _

theorem seekCopy (s : State) : EngineFrame s s.seekCopy := by
  unfold State.seekCopy
  split
  · exact refl s
  · next c _ =>
    split
    · obtain ⟨a, ha⟩ := ask_eq s.journal (.read .copy (c.addr + c.bytes.length) c.readLength)
      exact ⟨rfl, rfl, rfl, rfl, rfl, by rw [ha]; rfl⟩
    · exact refl s

theorem stageRow (s : State) : EngineFrame s s.stageRow := by
  unfold State.stageRow
  split
  · split
    · split
      · exact setEngine s rfl
      · exact refl s
    · split
      · have taken (c : Composer) : EngineFrame s (s.setComposer c).footerReached.seekCopy :=
          (seekCopy _).after ((footerReached _).after (setComposer s c))
        refine after (setEngine _ ?_) (taken _)
        exact (taken _).headTemp.symm
      · exact refl s
  · exact refl s

theorem transfer (s : State) (r : StagedRow) : EngineFrame s (s.transfer r) :=
  (stageRow _).after ((requestTemperature _).after (putEngine s none rfl))

theorem startStaged (s : State) : EngineFrame s s.startStaged := by
  unfold State.startStaged
  split
  · split
    · exact engineTo s _
    · exact transfer s _
  · exact refl s

theorem startRow (s : State) : EngineFrame s s.startRow := by
  refine after ?_ (stageRow s)
  unfold State.startRow
  dsimp only
  split
  · exact startStaged _
  · split
    · exact engineTo _ _
    · split
      · exact engineTo _ _
      · exact (startStaged _).after ((stageRow _).after (putEngine _ none rfl))
      · exact engineTo _ _

theorem pauseMedia (s : State) : EngineFrame s s.pauseMedia := putEngine s none rfl

theorem rowStart (s : State) : EngineFrame s s.rowStart := by
  have asked (c : Cluster) : EngineFrame s ((s.engineTo .claiming).setCluster c) :=
    (setCluster _ c).after (engineTo s .claiming)
  unfold State.rowStart
  dsimp only
  split
  · exact pauseMedia s
  · split
    · split
      · split
        · exact asked _
        · exact (startRow _).after (asked _)
      · split
        · exact engineTo s .claiming
        · exact (startRow _).after (engineTo s .claiming)
    · exact startRow s

end EngineFrame

/-- R141: the head temperature and the staged row's width with it; whatever the engine then decides leaves them. -/
theorem temperatureResult_frame (s : State) (t : Int) :
    EngineFrame (s.setEngine { s.engine with headTemp := some t, staged := s.engine.staged.map (fun r => r.rewidth t) })
      (s.temperatureResult t) := by
  have decided (u : State) (p : Prop) [Decidable p] : EngineFrame u (if p then u.rowStart else u) := by
    split
    · exact .rowStart u
    · exact .refl u
  unfold State.temperatureResult
  dsimp only
  split
  · exact decided _ _
  · exact decided _ _
  · exact decided _ _
  · exact .refl _

/-! ## A conversion ends (R71, R72) -/

/-- R71: the next request is granted as a conversion ends. -/
def granting (s : State) : State :=
  s.setScale { s.scale with conv := ({ s.scale.conv with converting := none, discard := false } : Converter).grant }

section conversionEnds
variable {s : State} {z : Int}

theorem conversionEnds_temperature (h : s.scale.conv.converting = some .temperature) :
    s.conversionEnds z = (granting s).temperatureResult (temperatureOf z) := by
  simp [State.conversionEnds, h, granting]

/-- R69: a scale result after a forced cutoff is discarded. -/
theorem conversionEnds_discarded {w : Requester} (h : s.scale.conv.converting = some w) (hw : w ≠ .temperature)
    (hdiscard : s.scale.conv.discard = true) : s.conversionEnds z = granting s := by
  cases w with
  | temperature => exact absurd rfl hw
  | produce => simp [State.conversionEnds, h, granting, hdiscard]
  | bagging => simp [State.conversionEnds, h, granting, hdiscard]

/-- R72: a result within the counts of the converter is the reading. -/
theorem readingOf_eq_self (hlo : -8388608 ≤ z) (hhi : z ≤ 8388607) : readingOf z = z := by
  unfold readingOf nearest
  rw [if_neg (by omega), if_neg (by omega)]

theorem conversionEnds_produce (h : s.scale.conv.converting = some .produce) (hkeep : s.scale.conv.discard = false)
    (hrun : s.scale.gen.running = true) (hlo : -8388608 ≤ z) (hhi : z ≤ 8388607) :
    s.conversionEnds z = (granting s).produceReading z := by
  simp [State.conversionEnds, h, granting, hkeep, hrun, readingOf_eq_self hlo hhi]

theorem conversionEnds_bagging (h : s.scale.conv.converting = some .bagging) (hkeep : s.scale.conv.discard = false)
    (hrun : s.scale.gen.running = true) (hlo : -8388608 ≤ z) (hhi : z ≤ 8388607) :
    s.conversionEnds z = (granting s).baggingReading z := by
  simp [State.conversionEnds, h, granting, hkeep, hrun, readingOf_eq_self hlo hhi]

end conversionEnds

/-! ## Readings and net samples (R68, R73) -/

theorem positive_eq_true {p : DrivePhase} (h : p = .positiveDead ∨ p = .positiveDrive) : p.positive = true := by
  rcases h with rfl | rfl <;> rfl

theorem positive_eq_false {p : DrivePhase} (h : p = .negativeDead ∨ p = .negativeDrive) : p.positive = false := by
  rcases h with rfl | rfl <;> rfl

section readings
variable {s : State} {r : Int}

theorem produceReading_positive (h : s.scale.gen.phase.positive = true) :
    s.produceReading r = s.setScale { s.scale with produce := { s.scale.produce with positive := some r } } := by
  simp [State.produceReading, h]

theorem baggingReading_positive (h : s.scale.gen.phase.positive = true) :
    s.baggingReading r = s.setScale { s.scale with bagging := { s.scale.bagging with positive := some r } } := by
  simp [State.baggingReading, h]

theorem produceReading_unpaired (h : s.scale.gen.phase.positive = false) (hnone : s.scale.produce.positive = none) :
    s.produceReading r = s := by
  simp [State.produceReading, h, hnone]

theorem baggingReading_unpaired (h : s.scale.gen.phase.positive = false) (hnone : s.scale.bagging.positive = none) :
    s.baggingReading r = s := by
  simp [State.baggingReading, h, hnone]

theorem produceReading_paired {p : Int} (h : s.scale.gen.phase.positive = false) (hp : s.scale.produce.positive = some p) :
    s.produceReading r = s.produceSample (p - r) := by
  simp [State.produceReading, h, hp]

theorem baggingReading_paired {p : Int} (h : s.scale.gen.phase.positive = false) (hp : s.scale.bagging.positive = some p) :
    s.baggingReading r = s.baggingSample (p - r) := by
  simp [State.baggingReading, h, hp]

end readings

/-- R73: the reading of the negative half forms the produce channel's net sample with the one kept. -/
theorem conversionEnds_produceSample {s : State} {z p : Int} (hlo : -8388608 ≤ z) (hhi : z ≤ 8388607)
    (h : s.formsSample .produce s.scale.produce p) : s.conversionEnds z = (granting s).produceSample (p - z) := by
  obtain ⟨hconv, hkeep, hrun, hphase, hpos⟩ := h
  rw [conversionEnds_produce hconv hkeep hrun hlo hhi]
  exact produceReading_paired (positive_eq_false hphase) hpos

/-- R73: the reading of the negative half forms the bagging channel's net sample with the one kept. -/
theorem conversionEnds_baggingSample {s : State} {z p : Int} (hlo : -8388608 ≤ z) (hhi : z ≤ 8388607)
    (h : s.formsSample .bagging s.scale.bagging p) : s.conversionEnds z = (granting s).baggingSample (p - z) := by
  obtain ⟨hconv, hkeep, hrun, hphase, hpos⟩ := h
  rw [conversionEnds_bagging hconv hkeep hrun hlo hhi]
  exact baggingReading_paired (positive_eq_false hphase) hpos

theorem newest_of_length_le {α : Type} {n : Nat} {l : List α} (h : l.length ≤ n) : newest n l = l := by
  rw [newest, Nat.sub_eq_zero_of_le h, List.drop_zero]

theorem newest_length {α : Type} {n : Nat} {l : List α} (h : n ≤ l.length) : (newest n l).length = n := by
  rw [newest, List.length_drop]
  omega

/-- R73: fewer than eight net samples are all kept, and give no filtered value. -/
theorem pushSample_of_few {c : Channel} (x : Int) (h : c.samples.length < 7) :
    c.pushSample x = { c with samples := c.samples ++ [x], positive := none } ∧ (c.pushSample x).filtered = none := by
  have kept : newest 8 (c.samples ++ [x]) = c.samples ++ [x] := newest_of_length_le (by simp only [List.length_append, List.length_singleton]; omega)
  have hlength : (c.samples ++ [x]).length ≠ 8 := by simp only [List.length_append, List.length_singleton, ne_eq]; omega
  simp only [Channel.pushSample, Channel.filtered, kept, if_neg hlength, and_self]

/-- R73: from the eighth net sample on, the newest eight give the filtered value. -/
theorem filtered_pushSample {c : Channel} (x : Int) (h : 7 ≤ c.samples.length) :
    (c.pushSample x).filtered = some (newest 8 (c.samples ++ [x])).sum :=
  if_pos (newest_length (by simp only [List.length_append, List.length_singleton]; omega))

theorem produceSample_of_few {s : State} (x : Int) (h : s.scale.produce.samples.length < 7) :
    s.produceSample x = s.setScale { s.scale with
      produce := { s.scale.produce with samples := s.scale.produce.samples ++ [x], positive := none } } := by
  obtain ⟨hpush, hfilt⟩ := pushSample_of_few x h
  simp only [State.produceSample, hfilt]
  rw [hpush]

theorem baggingSample_of_few {s : State} (x : Int) (h : s.scale.bagging.samples.length < 7) :
    s.baggingSample x = s.setScale { s.scale with
      bagging := { s.scale.bagging with samples := s.scale.bagging.samples ++ [x], positive := none } } := by
  obtain ⟨hpush, hfilt⟩ := pushSample_of_few x h
  simp only [State.baggingSample, hfilt]
  rw [hpush]

theorem produceSample_of_eight {s : State} (x : Int) (h : 7 ≤ s.scale.produce.samples.length) :
    s.produceSample x = (s.setScale { s.scale with
      produce := (s.scale.produce.pushSample x).produceWeight (newest 8 (s.scale.produce.samples ++ [x])).sum }).produceFormed := by
  simp only [State.produceSample, filtered_pushSample x h]

theorem baggingSample_of_eight {s : State} (x : Int) (h : 7 ≤ s.scale.bagging.samples.length) :
    s.baggingSample x = (s.setScale { s.scale with
      bagging := (s.scale.bagging.pushSample x).baggingWeight (newest 8 (s.scale.bagging.samples ++ [x])).sum }).baggingFormed
        s.scale.bagging := by
  simp only [State.baggingSample, filtered_pushSample x h]

/-! ## A produce weight (R74 to R79, R81) -/

section settleProduce
variable {c : Channel} {f g : Int}

/-- R76: in a state with a zero the gross settles the state. -/
theorem settleProduce_of_zeroed
    (h : c.state = .ready ∨ c.state = .overload ∨ c.state = .underload ∨ (c.state = .warmup ∧ c.initialZero ≠ none)) :
    c.settleProduce f g = { c with state := settledState g } := by
  rcases h with h | h | h | ⟨h, hzero⟩
  · simp [Channel.settleProduce, h]
  · simp [Channel.settleProduce, h]
  · simp [Channel.settleProduce, h]
  · obtain ⟨z, hz⟩ := Option.ne_none_iff_exists'.mp hzero
    simp [Channel.settleProduce, h, hz]

/-- R77: a steady history inside the zero window takes the zero. -/
theorem settleProduce_takes_zero (h : c.state = .noZero ∨ (c.state = .warmup ∧ c.initialZero = none))
    (hsteady : steadyWeights c.weights = true) (hlo : -300 ≤ g) (hhi : g ≤ 300) : c.settleProduce f g = c.takeZero f := by
  have hwindow : inZeroWindow g = true := by simp [inZeroWindow, hlo, hhi]
  rcases h with h | ⟨h, hzero⟩
  · simp [Channel.settleProduce, h, hsteady, hwindow]
  · simp [Channel.settleProduce, h, hzero, hsteady, hwindow]

/-- R77: a steady history outside the zero window leaves the channel without a zero. -/
theorem settleProduce_outside_window (h : c.state = .noZero ∨ (c.state = .warmup ∧ c.initialZero = none))
    (hsteady : steadyWeights c.weights = true) (hout : g < -300 ∨ 300 < g) :
    c.settleProduce f g = { c with state := .noZero } := by
  have hwindow : inZeroWindow g = false := by
    simp only [inZeroWindow, Bool.and_eq_false_iff, decide_eq_false_iff_not]
    omega
  rcases h with h | ⟨h, hzero⟩
  · rw [show ({ c with state := .noZero } : Channel) = c from h ▸ rfl]
    simp [Channel.settleProduce, h, hwindow]
  · simp [Channel.settleProduce, h, hzero, hsteady, hwindow]

/-- R77: without a steady history a channel that seeks its zero stays as it is. -/
theorem settleProduce_unsteady (h : c.state = .noZero ∨ (c.state = .warmup ∧ c.initialZero = none))
    (hsteady : steadyWeights c.weights = false) : c.settleProduce f g = c := by
  rcases h with h | ⟨h, hzero⟩
  · simp [Channel.settleProduce, h, hsteady]
  · simp [Channel.settleProduce, h, hzero, hsteady]

/-- R76, R77: settling writes the state, the zeros, the weight history and the gross. -/
theorem settleProduce_eq (c : Channel) (f g : Int) :
    ∃ st ref zero ws gr,
      c.settleProduce f g = { c with state := st, zeroRef := ref, initialZero := zero, weights := ws, gross := gr } := by
  unfold Channel.settleProduce
  repeat' split
  all_goals exact ⟨_, _, _, _, _, rfl⟩

end settleProduce

/-- R79: tracking moves the zero reference to the filtered value when it applies, and nothing else. -/
theorem track_eq (c : Channel) (f g : Int) :
    c.track f g = { c with zeroRef :=
      if c.stable = true ∧ c.tare = none ∧ -1 ≤ g ∧ g ≤ 1 ∧ c.offsetAllowed f = true then f else c.zeroRef } := by
  have hcond : (c.stable && c.tare.isNone && decide (-1 ≤ g) && decide (g ≤ 1) && c.offsetAllowed f) = true ↔
      c.stable = true ∧ c.tare = none ∧ -1 ≤ g ∧ g ≤ 1 ∧ c.offsetAllowed f = true := by
    simp [and_assoc]
  unfold Channel.track
  simp only [hcond]
  split <;> rfl

theorem track_of_moving {c : Channel} (f g : Int) (h : c.stable = false) : c.track f g = c := by
  simp [Channel.track, h]

section produceWeight
variable {c d : Channel} {f g : Int}

/-- R74 to R79, R81: a produce weight is the weight pushed and settled into `d`, then judged, tracked and given its net. -/
theorem produceWeight_eq (hg : c.weightFrom f c.zeroRef = g) (hd : (c.pushWeight g).settleProduce f g = d) :
    c.produceWeight f = { d.judgeStable.track f g with net := some (d.netOf (d.gross.getD 0)) } := by
  subst hg hd
  rw [track_eq]
  unfold Channel.produceWeight
  dsimp only
  rw [track_eq]
  rfl

/-- R74 to R79: a produce weight writes the state, the zeros, the weights, stability, the gross and the net. -/
theorem produceWeight_frame (c : Channel) (f : Int) :
    (c.produceWeight f).samples = c.samples ∧ (c.produceWeight f).positive = c.positive ∧ (c.produceWeight f).tare = c.tare ∧
    (c.produceWeight f).span = c.span := by
  obtain ⟨st, ref, zero, ws, gr, h⟩ := settleProduce_eq (c.pushWeight (c.weightFrom f c.zeroRef)) f (c.weightFrom f c.zeroRef)
  rw [produceWeight_eq rfl h, track_eq]
  exact ⟨rfl, rfl, rfl, rfl⟩

/-- R74 to R79: the channel after a weight in a state with a zero. -/
theorem produceWeight_of_zeroed {ws : List Int} {st : Bool} (hg : c.weightFrom f c.zeroRef = g)
    (hws : newest 5 (c.weights ++ [g]) = ws) (hst : (settledState g == .ready && steadyWeights ws) = st)
    (h : c.state = .ready ∨ c.state = .overload ∨ c.state = .underload ∨ (c.state = .warmup ∧ c.initialZero ≠ none)) :
    c.produceWeight f =
      { c with
        state := settledState g, weights := ws, stable := st, gross := some g, net := some (g - ((c.tare.getD 0 : Nat) : Int)),
        zeroRef := if st = true ∧ c.tare = none ∧ -1 ≤ g ∧ g ≤ 1 ∧ c.offsetAllowed f = true then f else c.zeroRef } := by
  subst hws hst
  rw [produceWeight_eq hg (settleProduce_of_zeroed h), track_eq]
  rfl

/-- A weight that settles a channel that is not stable moves no reference but by what settling does. -/
theorem produceWeight_of_moving (hg : c.weightFrom f c.zeroRef = g) (hd : (c.pushWeight g).settleProduce f g = d)
    (hmove : d.isStable = false) :
    c.produceWeight f = { d with stable := false, net := some (d.netOf (d.gross.getD 0)) } := by
  have hjudged : d.judgeStable = { d with stable := false } := by rw [Channel.judgeStable, hmove]
  rw [produceWeight_eq hg hd, hjudged, track_of_moving _ _ rfl]

end produceWeight

/-! ## What follows a produce weight (R83, R84) leaves the scale, the cluster, the journal and the engine -/

section captureWeight
variable (s : State) (st : ChannelState) (stable : Bool) (gross net : Int)

/-- R89: a capture that ends CAPTURED writes the capture, the sale, the expectations and the lane link. -/
theorem captured_frame (c : CaptureRec) (grams : Nat) :
    (s.captured c grams).scale = s.scale ∧ (s.captured c grams).cluster = s.cluster ∧
    (s.captured c grams).journal = s.journal ∧ (s.captured c grams).engine = s.engine := by
  unfold State.captured
  dsimp only
  split <;> exact ⟨rfl, rfl, rfl, rfl⟩

/-- R87, R88, R92: the capture unit acts on the capture, the sale, the expectations and the lane link. -/
theorem captureWeight_frame :
    (s.captureWeight st stable gross net).scale = s.scale ∧ (s.captureWeight st stable gross net).cluster = s.cluster ∧
    (s.captureWeight st stable gross net).journal = s.journal ∧ (s.captureWeight st stable gross net).engine = s.engine := by
  unfold State.captureWeight
  dsimp only
  split
  · exact ⟨rfl, rfl, rfl, rfl⟩
  · split
    · split <;> exact ⟨rfl, rfl, rfl, rfl⟩
    · split
      · exact captured_frame _ _ _
      · exact ⟨rfl, rfl, rfl, rfl⟩

end captureWeight

/-- R84: a WEIGHT notice where what it carries has changed, and then the capture unit. -/
theorem produceFormed_eq (s : State) :
    ∃ t st stable gross net, SameUpToReport s t ∧ s.produceFormed = t.captureWeight st stable gross net := by
  have reported : SameUpToReport s (if s.scale.produceDiffers then s.weightNotice else s) := by
    split
    · exact .inr rfl
    · exact .inl rfl
  exact ⟨_, _, _, _, _, reported, rfl⟩

theorem produceFormed_frame (s : State) :
    s.produceFormed.scale.produce = s.scale.produce ∧ s.produceFormed.scale.bagging = s.scale.bagging ∧
    s.produceFormed.scale.gen = s.scale.gen ∧ s.produceFormed.cluster = s.cluster ∧ s.produceFormed.journal = s.journal ∧
    s.produceFormed.engine = s.engine := by
  obtain ⟨t, st, stable, gross, net, same, hformed⟩ := produceFormed_eq s
  obtain ⟨hscale, hcluster, hjournal, hengine⟩ := captureWeight_frame t st stable gross net
  rw [hformed, hscale, hcluster, hjournal, hengine]
  exact ⟨same.produce, same.baggingChannel, same.gen, same.cluster, same.journal, same.engine⟩

/-! ## The parts of O28 -/

/-- R71, R72, R141: a temperature goes to the print engine, held to its range. -/
theorem conversionEnd_delivers_temperature {s : State} (z : Int) (h : s.scale.conv.converting = some .temperature) :
    ∃ t, exec (.conversionEnd z) s = .next t ∧ t.engine.headTemp = some (if z < -20 then -20 else if 120 < z then 120 else z) ∧
      t.scale.produce = s.scale.produce ∧ t.scale.bagging = s.scale.bagging ∧ t.sale = s.sale ∧ t.capture = s.capture ∧
      t.journal.array = s.journal.array := by
  have frame := temperatureResult_frame (granting s) (temperatureOf z)
  refine ⟨_, exec_conversionEnd s z, ?_⟩
  rw [conversionEnds_temperature h]
  exact ⟨frame.headTemp, frame.produce, frame.baggingChannel, frame.sale, frame.capture, frame.array⟩

section produceWeightFormed
variable {s : State} {z p : Int} (hlo : -8388608 ≤ z) (hhi : z ≤ 8388607) (hforms : s.formsSample .produce s.scale.produce p)
  (hmany : 7 ≤ s.scale.produce.samples.length)
include hlo hhi hforms hmany

/-- R73 to R79: from the eighth net sample on the produce channel forms its weight, and nothing but the channel, the converter, the report,
the capture, the sale and the expectations moves. -/
theorem conversionEnd_forms_produceWeight :
    ∃ t, exec (.conversionEnd z) s = .next t ∧
      t.scale.produce =
        (s.scale.produce.pushSample (p - z)).produceWeight (newest 8 (s.scale.produce.samples ++ [p - z])).sum ∧
      t.scale.bagging = s.scale.bagging ∧ t.scale.gen = s.scale.gen ∧ t.cluster = s.cluster ∧ t.journal = s.journal ∧
      t.engine = s.engine := by
  refine ⟨_, exec_conversionEnd s z, ?_⟩
  rw [conversionEnds_produceSample hlo hhi hforms, produceSample_of_eight (s := granting s) (p - z) hmany]
  exact produceFormed_frame _

end produceWeightFormed

section seekingZero
variable {c : Channel} {f g : Int} (hg : c.weightFrom f c.zeroRef = g)
  (hseek : c.state = .noZero ∨ (c.state = .warmup ∧ c.initialZero = none))
include hg hseek

/-- R77: a steady history within the zero window gives the channel its zero and empties the history, so the channel is moving. -/
theorem produceWeight_takes_zero (hsteady : steadyWeights (newest 5 (c.weights ++ [g])) = true) (hlo : -300 ≤ g) (hhi : g ≤ 300) :
    (c.produceWeight f).state = .ready ∧ (c.produceWeight f).zeroRef = f ∧ (c.produceWeight f).initialZero = some f ∧
    (c.produceWeight f).weights = [] ∧ (c.produceWeight f).stable = false := by
  rw [produceWeight_of_moving hg (settleProduce_takes_zero (c := c.pushWeight g) hseek hsteady hlo hhi) rfl]
  exact ⟨rfl, rfl, rfl, rfl, rfl⟩

/-- R77: a steady history outside the zero window leaves the channel in NO_ZERO. -/
theorem produceWeight_outside_window (hsteady : steadyWeights (newest 5 (c.weights ++ [g])) = true) (hout : g < -300 ∨ 300 < g) :
    (c.produceWeight f).state = .noZero ∧ (c.produceWeight f).zeroRef = c.zeroRef ∧
    (c.produceWeight f).initialZero = c.initialZero ∧ (c.produceWeight f).weights = newest 5 (c.weights ++ [g]) ∧
    (c.produceWeight f).stable = false := by
  rw [produceWeight_of_moving hg (settleProduce_outside_window (c := c.pushWeight g) hseek hsteady hout) rfl]
  exact ⟨rfl, rfl, rfl, rfl, rfl⟩

/-- R77: without a steady history the channel goes on seeking. -/
theorem produceWeight_unsteady (hsteady : steadyWeights (newest 5 (c.weights ++ [g])) = false) :
    (c.produceWeight f).state = c.state ∧ (c.produceWeight f).zeroRef = c.zeroRef ∧
    (c.produceWeight f).initialZero = c.initialZero ∧ (c.produceWeight f).weights = newest 5 (c.weights ++ [g]) ∧
    (c.produceWeight f).stable = false := by
  have hmove : (c.pushWeight g).isStable = false :=
    (Bool.and_eq_false_iff).mpr (.inr hsteady)
  rw [produceWeight_of_moving hg (settleProduce_unsteady (c := c.pushWeight g) hseek hsteady) hmove]
  exact ⟨rfl, rfl, rfl, rfl, rfl⟩

end seekingZero

/-- Settles O28: by the requester, the half of the period, and the number of net samples; the produce weight by the channel's state. -/
theorem conversionEndDelivers : Obligations.ConversionEndDelivers := by
  unfold Obligations.ConversionEndDelivers
  refine ⟨fun s z w hconv => ⟨?temperature, ?discarded, ?produce, ?bagging⟩, fun s z p hlo hhi => ⟨?fewProduce, ?fewBagging⟩,
    fun s z p hlo hhi hforms hmany => ?weight⟩
  case temperature =>
    rintro rfl
    exact conversionEnd_delivers_temperature z hconv
  case discarded =>
    intro hw hdiscard
    rw [exec_conversionEnd, conversionEnds_discarded hconv hw hdiscard]; rfl
  case produce =>
    rintro rfl hkeep hrun hlo hhi
    rw [exec_conversionEnd, conversionEnds_produce hconv hkeep hrun hlo hhi]
    refine ⟨fun hpos => ?_, fun hneg hnone => ?_⟩
    · rw [produceReading_positive (s := granting s) (positive_eq_true hpos)]; rfl
    · rw [produceReading_unpaired (s := granting s) (positive_eq_false hneg) hnone]; rfl
  case bagging =>
    rintro rfl hkeep hrun hlo hhi
    rw [exec_conversionEnd, conversionEnds_bagging hconv hkeep hrun hlo hhi]
    refine ⟨fun hpos => ?_, fun hneg hnone => ?_⟩
    · rw [baggingReading_positive (s := granting s) (positive_eq_true hpos)]; rfl
    · rw [baggingReading_unpaired (s := granting s) (positive_eq_false hneg) hnone]; rfl
  case fewProduce =>
    intro hforms hfew
    rw [exec_conversionEnd, conversionEnds_produceSample hlo hhi hforms, produceSample_of_few (s := granting s) (p - z) hfew]; rfl
  case fewBagging =>
    intro hforms hfew
    rw [exec_conversionEnd, conversionEnds_baggingSample hlo hhi hforms, baggingSample_of_few (s := granting s) (p - z) hfew]; rfl
  case weight =>
    obtain ⟨t, hexec, hproduce, hbag, hgen, hcluster, hjournal, hengine⟩ := conversionEnd_forms_produceWeight hlo hhi hforms hmany
    intro c history gross weights stable
    obtain ⟨hsamples, hpositive, htare, hspan⟩ := produceWeight_frame (c.pushSample (p - z)) history.sum
    refine ⟨t, hexec, ?_⟩
    rw [hproduce]
    refine ⟨hsamples, hpositive, htare, hspan, hbag, hgen, hcluster, hjournal, hengine, fun hzeroed => ?_, fun hseek => ⟨?_, ?_, ?_⟩⟩
    · rw [produceWeight_of_zeroed (c := c.pushSample (p - z)) (g := gross) (ws := weights) (st := stable) rfl rfl rfl hzeroed]
      exact ⟨rfl, rfl, rfl, rfl, rfl, rfl, rfl⟩
    · exact produceWeight_takes_zero (c := c.pushSample (p - z)) rfl hseek
    · exact produceWeight_outside_window (c := c.pushSample (p - z)) rfl hseek
    · exact produceWeight_unsteady (c := c.pushSample (p - z)) rfl hseek

/-! ## The first entries of the expectation list that match a change (R97) -/

/-- R97: the first `k` entries of a list match a change, on top of entries whose weights sum to `sum` and whose tolerances sum to `tol`. -/
def MatchesFrom (delta sum : Int) (tol : Nat) (es : List Expectation) (k : Nat) : Prop :=
  1 ≤ k ∧ k ≤ es.length ∧
  (delta - (sum + ((es.take k).map (fun e => e.expected)).sum)).natAbs ≤ tol + ((es.take k).map (fun e => e.tolerance)).sum

theorem matchesFrom_zero_iff (b : Bagging) (delta : Int) (k : Nat) : MatchesFrom delta 0 0 b.entries k ↔ b.prefixMatches delta k := by
  simp [MatchesFrom, Bagging.prefixMatches]

section matchPrefix
variable {delta : Int}

theorem matchesFrom_cons_one (sum : Int) (tol : Nat) (e : Expectation) (es : List Expectation) :
    MatchesFrom delta sum tol (e :: es) 1 ↔ (delta - (sum + e.expected)).natAbs ≤ tol + e.tolerance := by
  simp [MatchesFrom]

theorem matchesFrom_cons_succ (sum : Int) (tol : Nat) (e : Expectation) (es : List Expectation) {k : Nat} (hk : 1 ≤ k) :
    MatchesFrom delta sum tol (e :: es) (k + 1) ↔ MatchesFrom delta (sum + e.expected) (tol + e.tolerance) es k := by
  simp [MatchesFrom, hk, Int.add_assoc, Nat.add_assoc]

/-- The search finds the smallest count of first entries that match. -/
theorem matchPrefix_eq_some (sum : Int) (tol n : Nat) (es : List Expectation) {k : Nat} (hk : MatchesFrom delta sum tol es k)
    (hmin : ∀ m < k, ¬ MatchesFrom delta sum tol es m) : matchPrefix delta sum tol n es = some (n + k) := by
  induction es generalizing sum tol n k with
  | nil =>
    obtain ⟨hpos, hlength, -⟩ := hk
    rw [List.length_nil] at hlength
    omega
  | cons e es ih =>
    obtain ⟨j, rfl⟩ : ∃ j, k = j + 1 := ⟨k - 1, by have := hk.1; omega⟩
    unfold matchPrefix
    dsimp only
    rcases Nat.eq_zero_or_pos j with rfl | hj
    · rw [if_pos ((matchesFrom_cons_one sum tol e es).mp hk)]
    · have hone : ¬ MatchesFrom delta sum tol (e :: es) 1 := hmin 1 (by omega)
      rw [if_neg (fun h => hone ((matchesFrom_cons_one sum tol e es).mpr h)),
        ih _ _ (n + 1) ((matchesFrom_cons_succ sum tol e es hj).mp hk) ?_]
      · rw [Nat.add_assoc, Nat.add_comm 1]
      · intro m hm hmatch
        exact hmin (m + 1) (by omega) ((matchesFrom_cons_succ sum tol e es hmatch.1).mpr hmatch)

/-- The search finds nothing when no count of first entries matches. -/
theorem matchPrefix_eq_none (sum : Int) (tol n : Nat) (es : List Expectation) (h : ∀ k, ¬ MatchesFrom delta sum tol es k) :
    matchPrefix delta sum tol n es = none := by
  induction es generalizing sum tol n with
  | nil => rfl
  | cons e es ih =>
    unfold matchPrefix
    dsimp only
    rw [if_neg (fun hone => h 1 ((matchesFrom_cons_one sum tol e es).mpr hone))]
    exact ih _ _ _ (fun k hk => h (k + 1) ((matchesFrom_cons_succ sum tol e es hk.1).mpr hk))

end matchPrefix

/-! ## Lines that take their bag status (R5, R97) -/

/-- The model's change of one element is the library's `List.modify`. -/
theorem changeAt_eq_modify {α : Type} (f : α → α) (i : Nat) (l : List α) : changeAt f i l = l.modify i f := by
  induction l generalizing i with
  | nil => simp [changeAt]
  | cons x xs ih => cases i <;> simp [changeAt, ih]

theorem setBag_lines (sale : Sale) (i : Nat) (b : BagStatus) :
    (sale.setBag i b).lines = sale.lines.modify i (fun l => { l with bag := b }) :=
  changeAt_eq_modify _ i sale.lines

theorem setBag_line_self (sale : Sale) (i : Nat) (b : BagStatus) :
    (sale.setBag i b).lines[i]? = sale.lines[i]?.map (fun l => { l with bag := b }) := by
  rw [setBag_lines, List.getElem?_modify_eq]; rfl

theorem setBag_line_ne (sale : Sale) {i j : Nat} (b : BagStatus) (h : i ≠ j) :
    (sale.setBag i b).lines[j]? = sale.lines[j]? := by
  rw [setBag_lines, List.getElem?_modify_ne _ _ h]

/-- R97: the bag status of a line whose entry leaves the list: BAGGED, or REMOVED for a REMOVE entry. -/
def leavingStatus (e : Expectation) : BagStatus := if e.removal then .removed else .bagged

/-- R97: the sale once the lines of a list of entries have taken their bag status. -/
def bagLines (es : List Expectation) (sale : Sale) : Sale := es.foldl (fun x e => x.setBag e.line (leavingStatus e)) sale

theorem foldl_setLineBag (es : List Expectation) (s : State) :
    es.foldl (fun s e => s.setLineBag e.line (if e.removal then .removed else .bagged)) s = s.setSale (bagLines es s.sale) := by
  induction es generalizing s with
  | nil => rfl
  | cons e es ih => exact ih _

theorem bagLines_total (es : List Expectation) (sale : Sale) : (bagLines es sale).total = sale.total := by
  induction es generalizing sale with
  | nil => rfl
  | cons e es ih => exact ih _

theorem bagLines_other {es : List Expectation} {i : Nat} (h : ∀ e ∈ es, e.line ≠ i) (sale : Sale) :
    (bagLines es sale).lines[i]? = sale.lines[i]? := by
  induction es generalizing sale with
  | nil => rfl
  | cons e es ih =>
    have hrest := ih (fun x hx => h x (List.mem_cons_of_mem _ hx)) (sale.setBag e.line (leavingStatus e))
    exact hrest.trans (setBag_line_ne sale _ (h e List.mem_cons_self))

/-- R97: with one entry for each line, each line takes the status of its entry. -/
theorem bagLines_line {es : List Expectation} (hnodup : (es.map (fun e => e.line)).Nodup) {e : Expectation} (he : e ∈ es) {l : Line}
    (sale : Sale) (hl : sale.lines[e.line]? = some l) :
    (bagLines es sale).lines[e.line]? = some { l with bag := leavingStatus e } := by
  induction es generalizing sale with
  | nil => cases he
  | cons x xs ih =>
    obtain ⟨hfresh, hrest⟩ := List.nodup_cons.mp hnodup
    have hne (y : Expectation) (hy : y ∈ xs) : y.line ≠ x.line := fun h => hfresh (List.mem_map.mpr ⟨y, hy, h⟩)
    rcases List.mem_cons.mp he with rfl | hmem
    · refine (bagLines_other hne (sale.setBag e.line (leavingStatus e))).trans ?_
      rw [setBag_line_self, hl, Option.map_some]
    · exact ih hrest hmem (sale.setBag x.line (leavingStatus x)) ((setBag_line_ne sale _ (hne e hmem).symm).trans hl)

/-! ## A settle event (R96 to R98) -/

section withdrawTimeout
variable (s : State)

@[simp] theorem withdrawTimeout_scale : s.withdrawTimeout.scale = s.scale := by unfold State.withdrawTimeout; split <;> simp
@[simp] theorem withdrawTimeout_sale : s.withdrawTimeout.sale = s.sale := by unfold State.withdrawTimeout; split <;> simp
@[simp] theorem withdrawTimeout_capture : s.withdrawTimeout.capture = s.capture := by unfold State.withdrawTimeout; split <;> simp
@[simp] theorem withdrawTimeout_bagging : s.withdrawTimeout.bagging = s.bagging := by unfold State.withdrawTimeout; split <;> simp
@[simp] theorem withdrawTimeout_drawer : s.withdrawTimeout.drawer = s.drawer := by unfold State.withdrawTimeout; split <;> simp
@[simp] theorem withdrawTimeout_engine : s.withdrawTimeout.engine = s.engine := by unfold State.withdrawTimeout; split <;> simp
@[simp] theorem withdrawTimeout_journal : s.withdrawTimeout.journal = s.journal := by unfold State.withdrawTimeout; split <;> simp

@[simp] theorem withdrawTimeout_wanted : s.withdrawTimeout.cluster.wanted =
    if s.bagging.anyOverdue then s.cluster.wanted else s.cluster.wanted.remove .bagTimeout := by
  unfold State.withdrawTimeout
  split <;> simp

end withdrawTimeout

/-- The bagging verifier writes the sale, the expectations, the cluster unit and the lane link: it leaves the scale, the capture, the journal,
the engine and the drawer. -/
structure VerifierFrame (s t : State) : Prop where
  scale : t.scale = s.scale
  capture : t.capture = s.capture
  journal : t.journal = s.journal
  engine : t.engine = s.engine
  drawer : t.drawer = s.drawer

section settle
variable {s : State} {w base : Int}

theorem settleAtBaseline_frame (s : State) : VerifierFrame s s.settleAtBaseline := by
  constructor <;> simp [State.settleAtBaseline, State.baggingNotice]

theorem settleAtBaseline_effect (s : State) :
    s.settleAtBaseline.bagging = s.bagging ∧ s.settleAtBaseline.sale = s.sale ∧
    s.settleAtBaseline.cluster.wanted = ((s.cluster.wanted.remove .unexpectedItem).remove .itemRemoved).remove .bagMismatch := by
  simp [State.settleAtBaseline, State.baggingNotice]

/-- R97: a found event, with the lines of the entries that leave the list taken together. -/
theorem settleFound_eq (s : State) (n : Nat) (w : Int) :
    s.settleFound n w =
      ((((s.setBagging { s.bagging with entries := s.bagging.entries.drop n, baseline := some w }).setSale
        (bagLines (s.bagging.entries.take n) s.sale)).withdraw .bagMismatch).withdrawTimeout).baggingNotice
          (.matched ((s.bagging.entries.take n).map (fun e => e.line))) := by
  unfold State.settleFound
  dsimp only
  rw [foldl_setLineBag]
  rfl

theorem settleFound_frame (s : State) (n : Nat) (w : Int) : VerifierFrame s (s.settleFound n w) := by
  rw [settleFound_eq]
  constructor <;> simp [State.baggingNotice]

theorem settleFound_effect (s : State) (n : Nat) (w : Int) :
    (s.settleFound n w).bagging = { s.bagging with entries := s.bagging.entries.drop n, baseline := some w } ∧
    (s.settleFound n w).sale = bagLines (s.bagging.entries.take n) s.sale ∧
    (s.settleFound n w).cluster.wanted =
      (if (s.bagging.entries.drop n).any (fun e => e.overdue) then s.cluster.wanted.remove .bagMismatch
       else (s.cluster.wanted.remove .bagMismatch).remove .bagTimeout) := by
  rw [settleFound_eq]
  simp [State.baggingNotice, Bagging.anyOverdue]

/-- R98: the reason that an event neither at baseline nor found raises. -/
def unfoundReason (entries : List Expectation) (delta : Int) : CallReason :=
  if entries ≠ [] then .bagMismatch else if 0 < delta then .unexpectedItem else .itemRemoved

theorem settleNotFound_eq (s : State) (delta : Int) :
    ∃ r, s.settleNotFound delta = (s.raise (unfoundReason s.bagging.entries delta)).baggingNotice r := by
  unfold State.settleNotFound unfoundReason
  cases s.bagging.entries with
  | cons e es => exact ⟨_, rfl⟩
  | nil =>
    by_cases h : 0 < delta
    · exact ⟨.unexpected delta, by simp [h]⟩
    · exact ⟨.removed delta, by simp [h]⟩

theorem settleNotFound_frame (s : State) (delta : Int) : VerifierFrame s (s.settleNotFound delta) := by
  obtain ⟨r, h⟩ := settleNotFound_eq s delta
  rw [h]
  constructor <;> simp [State.baggingNotice]

theorem settleNotFound_effect (s : State) (delta : Int) :
    (s.settleNotFound delta).bagging = s.bagging ∧ (s.settleNotFound delta).sale = s.sale ∧
    (s.settleNotFound delta).cluster.wanted = s.cluster.wanted.add (unfoundReason s.bagging.entries delta) := by
  obtain ⟨r, h⟩ := settleNotFound_eq s delta
  rw [h]
  simp [State.baggingNotice]

/-- R96: outside OPEN and TENDER a settle event moves the baseline. -/
theorem settleEvent_outside (ho : s.sale.state ≠ .opened) (ht : s.sale.state ≠ .tender) :
    s.settleEvent w = s.setBagging { s.bagging with baseline := some w } := by
  simp [State.settleEvent, ho, ht]

theorem settleEvent_atBaseline (hstate : s.sale.state = .opened ∨ s.sale.state = .tender) (hbase : s.bagging.baseline = some base)
    (hlo : -2 ≤ w - base) (hhi : w - base ≤ 2) : s.settleEvent w = s.settleAtBaseline := by
  simp only [State.settleEvent, if_pos hstate, hbase, atBaseline, decide_eq_true hlo, decide_eq_true hhi, Bool.and_self, if_true]

theorem atBaseline_eq_false {delta : Int} (h : delta < -2 ∨ 2 < delta) : atBaseline delta = false := by
  simp only [atBaseline, Bool.and_eq_false_iff, decide_eq_false_iff_not]
  omega

theorem settleEvent_found (hstate : s.sale.state = .opened ∨ s.sale.state = .tender) (hbase : s.bagging.baseline = some base)
    (hout : w - base < -2 ∨ 2 < w - base) {n : Nat} (hn : s.bagging.prefixMatches (w - base) n)
    (hmin : ∀ m < n, ¬ s.bagging.prefixMatches (w - base) m) : s.settleEvent w = s.settleFound n w := by
  have hmatch : matchPrefix (w - base) 0 0 0 s.bagging.entries = some (0 + n) :=
    matchPrefix_eq_some 0 0 0 _ ((matchesFrom_zero_iff _ _ n).mpr hn)
      (fun m hm h => hmin m hm ((matchesFrom_zero_iff _ _ m).mp h))
  rw [Nat.zero_add] at hmatch
  simp [State.settleEvent, hstate, hbase, atBaseline_eq_false hout, hmatch]

theorem settleEvent_notFound (hstate : s.sale.state = .opened ∨ s.sale.state = .tender) (hbase : s.bagging.baseline = some base)
    (hout : w - base < -2 ∨ 2 < w - base) (hnone : ∀ n, ¬ s.bagging.prefixMatches (w - base) n) :
    s.settleEvent w = s.settleNotFound (w - base) := by
  have hmatch : matchPrefix (w - base) 0 0 0 s.bagging.entries = none :=
    matchPrefix_eq_none 0 0 0 _ (fun k h => hnone k ((matchesFrom_zero_iff _ _ k).mp h))
  simp [State.settleEvent, hstate, hbase, atBaseline_eq_false hout, hmatch]

theorem settleEvent_frame (s : State) (w : Int) : VerifierFrame s (s.settleEvent w) := by
  unfold State.settleEvent
  split
  · split
    · exact ⟨rfl, rfl, rfl, rfl, rfl⟩
    · dsimp only
      split
      · exact settleAtBaseline_frame s
      · split
        · exact settleFound_frame s _ w
        · exact settleNotFound_frame s _
  · exact ⟨rfl, rfl, rfl, rfl, rfl⟩

end settle

/-! ## A bagging weight (R74 to R76, R78, R95) -/

/-- R74 to R76, R78: the bagging channel after a weight. -/
theorem baggingWeight_eq {c : Channel} {f g : Int} (hg : c.weightFrom f c.zeroRef = g) :
    c.baggingWeight f =
      { c with
        state := settledState g, weights := newest 5 (c.weights ++ [g]), gross := some g, net := some g,
        baselineWanted := c.baselineWanted || c.state == .warmup,
        stable := settledState g == .ready && steadyWeights (newest 5 (c.weights ++ [g])) } := by
  subst hg
  rfl

/-- R95: what a stable weight that is the baseline's leaves. -/
def baselineTaken (s : State) : State :=
  (s.setScale { s.scale with bagging := { s.scale.bagging with baselineWanted := false } }).baselineEvent (s.scale.bagging.gross.getD 0)

/-- R78, R84: a WEIGHT notice where the state has changed, and then by stability, the baseline-wanted mark and the stability before. -/
theorem baggingFormed_eq (s : State) (before : Channel) :
    ∃ t, SameUpToReport s t ∧
      s.baggingFormed before =
        if s.scale.bagging.stable then
          if s.scale.bagging.baselineWanted then baselineTaken t
          else if before.stable then t
          else t.settleEvent (s.scale.bagging.gross.getD 0)
        else t := by
  by_cases h : s.scale.bagging.state = before.state
  · refine ⟨s, .inl rfl, ?_⟩
    simp only [State.baggingFormed, if_pos h]
    rfl
  · refine ⟨s.weightNotice, .inr rfl, ?_⟩
    simp only [State.baggingFormed, if_neg h]
    rfl

/-- After a bagging weight the baseline is no longer wanted once the channel is stable, and nothing else of the scale moves but the report. -/
theorem baggingFormed_frame (s : State) (before : Channel) :
    (s.baggingFormed before).scale.bagging =
      { s.scale.bagging with baselineWanted := s.scale.bagging.baselineWanted && !s.scale.bagging.stable } ∧
    (s.baggingFormed before).scale.produce = s.scale.produce ∧ (s.baggingFormed before).capture = s.capture ∧
    (s.baggingFormed before).journal = s.journal ∧ (s.baggingFormed before).engine = s.engine ∧
    (s.baggingFormed before).drawer = s.drawer := by
  obtain ⟨t, same, hformed⟩ := baggingFormed_eq s before
  have unmoved (h : s.scale.bagging.baselineWanted = (s.scale.bagging.baselineWanted && !s.scale.bagging.stable)) :
      t.scale.bagging = { s.scale.bagging with baselineWanted := s.scale.bagging.baselineWanted && !s.scale.bagging.stable } := by
    rw [same.baggingChannel, ← h]
  rw [hformed]
  by_cases hstable : s.scale.bagging.stable = true
  · by_cases hwanted : s.scale.bagging.baselineWanted = true
    · rw [if_pos hstable, if_pos hwanted]
      refine ⟨?_, same.produce, same.capture, same.journal, same.engine, same.drawer⟩
      simp [baselineTaken, State.baselineEvent, same.baggingChannel, hstable]
    · have hnot := unmoved (by simp [hwanted])
      rw [if_pos hstable, if_neg hwanted]
      split
      · exact ⟨hnot, same.produce, same.capture, same.journal, same.engine, same.drawer⟩
      · have frame := settleEvent_frame t (s.scale.bagging.gross.getD 0)
        rw [frame.scale, frame.capture, frame.journal, frame.engine, frame.drawer]
        exact ⟨hnot, same.produce, same.capture, same.journal, same.engine, same.drawer⟩
  · rw [if_neg hstable]
    exact ⟨unmoved (by simp [hstable]), same.produce, same.capture, same.journal, same.engine, same.drawer⟩

/-- R78: a weight that is not stable, or follows a stable one with no baseline wanted, is no event. -/
theorem baggingFormed_no_event {s : State} {before : Channel}
    (h : s.scale.bagging.stable = false ∨ (s.scale.bagging.baselineWanted = false ∧ before.stable = true)) :
    (s.baggingFormed before).bagging = s.bagging ∧ (s.baggingFormed before).sale = s.sale ∧
    (s.baggingFormed before).cluster = s.cluster := by
  obtain ⟨t, same, hformed⟩ := baggingFormed_eq s before
  have hnone : s.baggingFormed before = t := by
    rw [hformed]
    obtain hmoving | ⟨hwanted, hbefore⟩ := h
    · simp [hmoving]
    · simp [hwanted, hbefore]
  rw [hnone]
  exact ⟨same.bagging, same.sale, same.cluster⟩

/-- R95: a stable weight while the baseline is wanted is a baseline event. -/
theorem baggingFormed_baseline {s : State} {before : Channel} {g : Int} (hgross : s.scale.bagging.gross = some g)
    (hstable : s.scale.bagging.stable = true) (hwanted : s.scale.bagging.baselineWanted = true) :
    (s.baggingFormed before).bagging = { s.bagging with baseline := some g } ∧ (s.baggingFormed before).sale = s.sale ∧
    (s.baggingFormed before).cluster = s.cluster := by
  obtain ⟨t, same, hformed⟩ := baggingFormed_eq s before
  rw [hformed, if_pos hstable, if_pos hwanted]
  simp [baselineTaken, State.baselineEvent, same.baggingChannel, same.bagging, same.sale, same.cluster, hgross]

/-- R96: a stable weight that follows a moving one while no baseline is wanted is a settle event, of a state that agrees with `s` in the sale,
the expectations and the cluster unit. -/
theorem baggingFormed_settles {s : State} {before : Channel} {g : Int} (hgross : s.scale.bagging.gross = some g)
    (hstable : s.scale.bagging.stable = true) (hwanted : s.scale.bagging.baselineWanted = false) (hbefore : before.stable = false) :
    ∃ t : State, t.bagging = s.bagging ∧ t.sale = s.sale ∧ t.cluster = s.cluster ∧ s.baggingFormed before = t.settleEvent g := by
  obtain ⟨t, same, hformed⟩ := baggingFormed_eq s before
  refine ⟨t, same.bagging, same.sale, same.cluster, ?_⟩
  simp [hformed, hstable, hwanted, hbefore, hgross]

/-- The state in which what follows a bagging weight is judged: the converter granted, and the channel with its weight. -/
def withBaggingWeight (s : State) (x : Int) : State :=
  (granting s).setScale { (granting s).scale with
    bagging := (s.scale.bagging.pushSample x).baggingWeight (newest 8 (s.scale.bagging.samples ++ [x])).sum }

theorem conversionEnds_baggingWeight {s : State} {z p : Int} (hlo : -8388608 ≤ z) (hhi : z ≤ 8388607)
    (hforms : s.formsSample .bagging s.scale.bagging p) (hmany : 7 ≤ s.scale.bagging.samples.length) :
    s.conversionEnds z = (withBaggingWeight s (p - z)).baggingFormed s.scale.bagging := by
  rw [conversionEnds_baggingSample hlo hhi hforms, baggingSample_of_eight (s := granting s) (p - z) hmany]
  rfl

/-- Settles O60: the channel after the weight, and then its event: none, a baseline event, or a settle event judged against the list. -/
theorem baggingWeightsAreJudged : Obligations.BaggingWeightsAreJudged := by
  unfold Obligations.BaggingWeightsAreJudged
  intro s z p hlo hhi hforms hmany c history gross weights stable wanted
  obtain ⟨hchannel, hproduce, hcapture, hjournal, hengine, hdrawer⟩ :=
    baggingFormed_frame (withBaggingWeight s (p - z)) s.scale.bagging
  refine ⟨_, exec_conversionEnd s z, ?_⟩
  rw [conversionEnds_baggingWeight hlo hhi hforms hmany]
  simp only [finish_scale, finish_capture, finish_journal, finish_engine, finish_drawer, finish_bagging, finish_sale, finish_cluster,
    hchannel, hproduce, hcapture, hjournal, hengine, hdrawer]
  refine ⟨rfl, rfl, rfl, rfl, rfl, rfl, rfl, rfl, rfl, rfl, rfl, rfl, fun hquiet => ?noEvent, fun hstable hwanted => ?baseline,
    fun hstable hwanted hmoving => ?settle⟩
  case noEvent => exact baggingFormed_no_event (s := withBaggingWeight s (p - z)) hquiet
  case baseline => exact baggingFormed_baseline (s := withBaggingWeight s (p - z)) rfl hstable hwanted
  case settle =>
    obtain ⟨t, (hbag : t.bagging = s.bagging), (hsale : t.sale = s.sale), (hcluster : t.cluster = s.cluster), hformed⟩ :=
      baggingFormed_settles (s := withBaggingWeight s (p - z)) (g := gross) rfl hstable hwanted hmoving
    rw [hformed, ← hbag, ← hsale, ← hcluster]
    refine ⟨fun ho ht => ?outside, fun base hstate hbase => ⟨fun hlo hhi => ?atBaseline, fun hout =>
      ⟨fun n hn hmin hnodup => ?found, fun hnone => ?notFound⟩⟩⟩
    case outside =>
      rw [settleEvent_outside ho ht]
      exact ⟨rfl, rfl, rfl⟩
    case atBaseline =>
      rw [settleEvent_atBaseline hstate hbase hlo hhi]
      exact settleAtBaseline_effect t
    case found =>
      rw [settleEvent_found hstate hbase hout hn hmin]
      obtain ⟨hleft, hlines, hreasons⟩ := settleFound_effect t n gross
      have hout : ((t.bagging.entries.take n).map (fun e => e.line)).Nodup :=
        hnodup.sublist ((List.take_sublist n t.bagging.entries).map _)
      rw [hlines]
      exact ⟨hleft, bagLines_total _ _, fun e he l hl => bagLines_line hout he t.sale hl, hreasons⟩
    case notFound =>
      rw [settleEvent_notFound hstate hbase hout hnone]
      exact settleNotFound_effect t (gross - base)

end Sys2Proof.Machine.ScaleFrontEnd
end

section
/-! SUPPORT. A capture that ends without a line (Chapter 4, R90) and a deadline that passes (Chapter 5, R99): the branches of CANCEL WEIGH, of the
capture timer and of the deadline, and the statements O22 and O30 settled from them. -/

namespace Sys2Proof.Machine.CaptureAndDeadline

open ScaleFrontEnd

/-! ## A capture ends without a line (R90) -/

theorem exec_captureTimer (s : State) : exec .captureTimer s = .next s.captureExpires.finish := rfl

section flight
variable {s : State}

/-- R90: the end of a capture in flight writes the record, the reservation and the one CAPTURE notice. -/
theorem endCapture_of_flight {c : CaptureRec} (o : CaptureOutcome) (h : s.capture.flight = some c) :
    s.endCapture o =
      ({ s with capture := { s.capture with flight := none }, sale := { s.sale with reservation := none } } : State).notice
        (.capture o none s.sale.total) := by
  simp only [State.endCapture, h]
  rfl

theorem cancelWeigh_of_none (h : s.capture.flight = none) : s.cancelWeigh = s.refuse .badState := by
  simp [State.cancelWeigh, h]

theorem cancelWeigh_of_flight {c : CaptureRec} (h : s.capture.flight = some c) :
    s.cancelWeigh = (s.endCapture .cancelled).done .nothing := by
  simp [State.cancelWeigh, h]

end flight

/-- Settles O22: CANCEL WEIGH refuses or ends the capture as one is in flight or not, and the capture timer ends it. -/
theorem captureEndsWithoutALine : Obligations.CaptureEndsWithoutALine := by
  unfold Obligations.CaptureEndsWithoutALine
  refine ⟨fun s tag htakes hnone => ?refused, fun s tag c htakes hflight => ?cancelled, fun s c hflight => ?timeout⟩
  case refused => exact answer_arrive_running (c := .cancelWeigh) htakes rfl (cancelWeigh_of_none hnone)
  case cancelled =>
    rw [← endCapture_of_flight .cancelled hflight]
    exact answer_arrive_running (c := .cancelWeigh) htakes rfl (cancelWeigh_of_flight hflight)
  case timeout => rw [exec_captureTimer, State.captureExpires, endCapture_of_flight .timeout hflight]

/-! ## A deadline passes (R99) -/

theorem exec_deadline (s : State) (i : Nat) : exec (.deadline i) s = .next (s.deadlinePasses i).finish := rfl

/-- R99: an entry of the line that is not overdue yet becomes overdue at its place, and BAG_TIMEOUT is raised. -/
theorem deadlinePasses_of_mem {s : State} {e : Expectation} (hmem : e ∈ s.bagging.entries) (hdue : e.overdue = false) :
    s.deadlinePasses e.line =
      ((s.setBagging { s.bagging with
          entries := s.bagging.entries.map (fun x => if x.line = e.line then { x with overdue := true } else x) }).raise
        .bagTimeout).baggingNotice (.overdue e.line) := by
  have hany : s.bagging.entries.any (fun x => x.line == e.line && !x.overdue) = true :=
    List.any_eq_true.mpr ⟨e, hmem, by simp [hdue]⟩
  rw [State.deadlinePasses, if_pos hany]

/-- Settles O30: raising BAG_TIMEOUT and the BAGGING notice leave the list with its marked entry, and every other block, as they stand. -/
theorem deadlineRaisesBagTimeout : Obligations.DeadlineRaisesBagTimeout := by
  unfold Obligations.DeadlineRaisesBagTimeout
  rintro s i e hmem rfl hdue
  refine ⟨_, exec_deadline s e.line, ?_⟩
  rw [deadlinePasses_of_mem hmem hdue]
  simp [State.baggingNotice]

end Sys2Proof.Machine.CaptureAndDeadline
end

section
/-! SUPPORT. The card decoder's swipes (Chapter 6, R104 to R106), DISCARD CARD (R116) and the end of the authority window (R117): the branches of each
operation, stated once, and the statements O31 and O33 settled from them. -/

namespace Sys2Proof.Machine.CardAndAuthority

open ScaleFrontEnd

/-! ## The rows of the card reader and of the window timer -/

section rows
variable (s : State)

theorem exec_trackTransition (k : Track) (u : Nat) : exec (.trackTransition k u) s = .next (s.trackMoves k u).finish := rfl

theorem exec_swipeEnd : exec .swipeEnd s = .next (s.setCard s.card.swipeEnds).finish := rfl

theorem exec_windowTimer : exec .windowTimer s = .next s.windowRunsOut.finish := rfl

end rows

/-! ## A track channel (R105, R106) -/

section channel
variable {c : TrackChannel}

/-- R106: a bit collected while the buffer has room goes to its end. -/
theorem collect_of_room (b : Bool) (hroom : c.bits.length < 1024) : c.collect b = { c with bits := c.bits ++ [b] } := by
  rw [TrackChannel.collect, if_pos hroom]

/-- R105: an interval of at least 3/4 of the estimate with no half-cell waiting is one full cell, a 0. -/
theorem timed_of_fullCell {t sum : Nat} (hfull : sum ≤ 4 * t) (hhalf : c.half = none) :
    c.timed t sum = { (c.collect false).addCell t with since := some 0 } := by
  rw [TrackChannel.timed, if_pos hfull, hhalf]

/-- R106: an interval beyond the longest cell closes the channel. -/
theorem transition_of_tooLong {k : Track} {d u : Nat} (hsince : c.since = some d) (hlong : longestCell k < d + u) :
    c.transition k u = { c with opened := false } := by
  simp only [TrackChannel.transition, hsince, if_pos hlong]

/-- R105: once there is an estimate, an interval no longer than the longest cell is timed against it. -/
theorem transition_of_estimate {k : Track} {d u x y z : Nat} (hsince : c.since = some d) (hcells : c.cells = [x, y, z])
    (hshort : d + u ≤ longestCell k) : c.transition k u = c.timed (d + u) (x + y + z) := by
  simp only [TrackChannel.transition, hsince, hcells, if_neg (Nat.not_lt.mpr hshort)]

/-- R105: a full cell collects a 0 and takes the oldest cell's place in the estimate. -/
theorem transition_of_fullCell {k : Track} {d u x y z : Nat} (hsince : c.since = some d) (hhalf : c.half = none)
    (hcells : c.cells = [x, y, z]) (hroom : c.bits.length < 1024) (hshort : d + u ≤ longestCell k)
    (hfull : x + y + z ≤ 4 * (d + u)) :
    c.transition k u = { c with bits := c.bits ++ [false], cells := [d + u, x, y], since := some 0 } := by
  rw [transition_of_estimate hsince hcells hshort, timed_of_fullCell hfull hhalf, collect_of_room false hroom]
  simp [TrackChannel.addCell, hcells]

end channel

/-! ## A swipe (R104) -/

section swipe
variable {c : Card}

/-- R104: a transition in QUIET opens both channels, the one it arrives at with its first transition. -/
theorem transition_of_quiet (k : Track) (u : Nat) (h : c.phase = .quiet) :
    c.transition k u =
      ({ c with phase := .collecting, swipeTimer := some 0, late := false, a := .fresh, b := .fresh } : Card).setChannel k
        { TrackChannel.fresh with since := some 0 } := by
  simp only [Card.transition, h, Card.openSwipe]

/-- R104, R105: a transition at an open channel in COLLECTING restarts the swipe-end timer and is the channel's to handle. -/
theorem transition_of_collecting {k : Track} (u : Nat) (h : c.phase = .collecting) (hopen : (c.channel k).opened = true) :
    c.transition k u = ({ c with swipeTimer := some 0 } : Card).setChannel k ((c.channel k).transition k u) := by
  simp only [Card.transition, h, if_pos hopen]

theorem swipeEnds_of_collecting {w : Nat} (h : c.phase = .collecting) (htimer : c.swipeTimer = some w) :
    c.swipeEnds = { c with phase := .decoding, swipeTimer := none, late := false } := by
  simp only [Card.swipeEnds, h, htimer]

theorem swipeEnds_of_skipping {w : Nat} (h : c.phase = .skipping) (htimer : c.swipeTimer = some w) :
    c.swipeEnds = { c with phase := .quiet, swipeTimer := none } := by
  simp only [Card.swipeEnds, h, htimer]

end swipe

section trackMoves
variable {s : State} (k : Track) (u : Nat)

theorem trackMoves_of_running (h : s.link.part = .running) : s.trackMoves k u = s.setCard (s.card.transition k u) := by
  simp only [State.trackMoves, h]

theorem trackMoves_of_not_running (h : s.link.part ≠ .running) : s.trackMoves k u = s := by
  rw [State.trackMoves]
  split
  case h_1 hrunning => exact absurd hrunning h
  case h_2 => rfl

end trackMoves

/-- Settles O31: a transition by part state and swipe phase, its interval by the channel's estimate, and the swipe's end by phase. -/
theorem swipeIsCollected : Obligations.SwipeIsCollected := by
  unfold Obligations.SwipeIsCollected
  refine fun s k u => ⟨fun hpart => ?ignored, fun hpart hphase => ?begins, fun d hpart hphase hopen hsince hlong => ?closes,
    fun d x y z hpart hphase hopen hsince hhalf hcells hroom hshort hfull => ?zero, fun w hphase htimer => ?decodes,
    fun w hphase htimer => ?skipped⟩
  case ignored => rw [exec_trackTransition, trackMoves_of_not_running k u hpart]
  case begins =>
    rw [exec_trackTransition, trackMoves_of_running k u hpart, transition_of_quiet k u hphase]
    cases k <;> rfl
  case closes =>
    rw [exec_trackTransition, trackMoves_of_running k u hpart, transition_of_collecting u hphase hopen,
      transition_of_tooLong hsince hlong]
    rfl
  case zero =>
    rw [exec_trackTransition, trackMoves_of_running k u hpart, transition_of_collecting u hphase hopen,
      transition_of_fullCell hsince hhalf hcells hroom hshort hfull]
    rfl
  case decodes =>
    rw [exec_swipeEnd, swipeEnds_of_collecting hphase htimer]
    rfl
  case skipped =>
    rw [exec_swipeEnd, swipeEnds_of_skipping hphase htimer]
    rfl

/-! ## DISCARD CARD (R116) -/

section discard
variable {s : State}

theorem discardCard_of_none (h : s.card.held = none) : s.discardCard = s.refuse .noCard := by
  simp only [State.discardCard, h]

theorem discardCard_of_held {r : CardRecord} (h : s.card.held = some r) :
    s.discardCard = s.wipeHeld.done (.overrun r.overrun) := by
  simp only [State.discardCard, h]

end discard

/-! ## The authority window (R117) -/

section window
variable {s : State}

/-- R117: no AUTHORITY notice is placed while authority stays present, or absent. -/
theorem putAuthority_of_same {a : Authority} (h : a.present = s.authority.present) : s.putAuthority a = s.setAuthority a := by
  rw [State.putAuthority, if_pos h]

theorem putAuthority_of_change {a : Authority} (h : a.present ≠ s.authority.present) :
    s.putAuthority a = (s.setAuthority a).notice (.authority a.present a.window.isSome a.key) := by
  rw [State.putAuthority, if_neg h]

theorem present_of_window {a : Authority} {w : Nat} (h : a.window = some w) : a.present = true := by
  simp [Authority.present, h]

/-- R117: without the window, authority is present just while the key is TURNED. -/
theorem present_of_no_window (k : KeyState) : Authority.present { window := none, key := k } = (k == .turned) := by
  simp [Authority.present]

theorem windowRunsOut_of_window {w : Nat} (h : s.authority.window = some w) : s.windowRunsOut = s.windowExpires := by
  simp only [State.windowRunsOut, h]

/-- R117: a TURNED key carries authority on as the window ends. -/
theorem windowExpires_of_turned {w : Nat} (h : s.authority.window = some w) (hkey : s.authority.key = .turned) :
    s.windowExpires = s.setAuthority { s.authority with window := none } := by
  have hstays : Authority.present { s.authority with window := none } = s.authority.present := by
    rw [present_of_no_window, present_of_window h, hkey]
    rfl
  rw [State.windowExpires, putAuthority_of_same hstays]

/-- R117: with the key not TURNED, authority ends with the window, and one AUTHORITY notice says so. -/
theorem windowExpires_of_not_turned {w : Nat} (h : s.authority.window = some w) (hkey : s.authority.key ≠ .turned) :
    s.windowExpires =
      (s.setAuthority { s.authority with window := none }).notice (.authority false false s.authority.key) := by
  have habsent : Authority.present { s.authority with window := none } = false := by
    rw [present_of_no_window, beq_eq_false_iff_ne]
    exact hkey
  have hends : Authority.present { s.authority with window := none } ≠ s.authority.present := by
    rw [habsent, present_of_window h]
    exact Bool.false_ne_true
  rw [State.windowExpires, putAuthority_of_change hends, habsent]
  rfl

end window

/-- Settles O33: DISCARD CARD by the buffer's state, and the window's end by the key's state. -/
theorem cardIsDiscardedAndWindowEnds : Obligations.CardIsDiscardedAndWindowEnds := by
  unfold Obligations.CardIsDiscardedAndWindowEnds
  refine ⟨fun s tag htakes hnone => ?refused, fun s tag r htakes hheld => ?wiped, fun s w hwindow hkey => ?stays,
    fun s w hwindow hkey => ?ends⟩
  case refused => exact answer_arrive_running (c := .discardCard) htakes rfl (discardCard_of_none hnone)
  case wiped => exact answer_arrive_running (c := .discardCard) htakes rfl (discardCard_of_held hheld)
  case stays =>
    rw [exec_windowTimer, windowRunsOut_of_window hwindow, windowExpires_of_turned hwindow hkey]
    rfl
  case ends =>
    rw [exec_windowTimer, windowRunsOut_of_window hwindow, windowExpires_of_not_turned hwindow hkey]
    rfl

end Sys2Proof.Machine.CardAndAuthority
end

section
/-! SUPPORT. The tone unit (Chapter 7, R135 to R137), the open drawer's timer (R130) and the drawer's other timers (R126 to R129): the branches of each
operation, stated once, what a release of supply and a claim leave of the till, and the statements O37 to O39 settled from them. -/

namespace Sys2Proof.Machine.TonesAndDrawer

open ScaleFrontEnd

/-! ## The rows of the drawer's timers and of the tone unit -/

section rows
variable (s : State)

theorem exec_claimTimer : exec .claimTimer s = .next s.claimExpires.finish := rfl

theorem exec_pulseTimer : exec .pulseTimer s = .next s.pulseEnds.finish := rfl

theorem exec_confirmTimer : exec .confirmTimer s = .next s.confirmExpires.finish := rfl

theorem exec_retryGapTimer : exec .retryGapTimer s = .next s.gapExpires.finish := rfl

theorem exec_openTimerAlarm : exec .openTimerAlarm s = .next s.openAlarm.finish := rfl

theorem exec_openTimerLong : exec .openTimerLong s = .next s.openLong.finish := rfl

theorem exec_toneEnd : exec .toneEnd s = .next (s.setTone (toneAfterEnd s.tone)).finish := rfl

theorem exec_toneStep : exec .toneStep s = .next (s.setTone (toneAfterStep s.tone)).finish := rfl

end rows

/-! ## A tone asked for (R136, R137) -/

section toneRequests
variable {s : State} {t : ToneName} {n : Nat}

/-- R136: a request begins its tone just while no tone of higher precedence plays. -/
theorem toneBegins_iff (o : Option Playing) : toneBegins o t = true ↔ ∀ p, o = some p → p.tone.precedence ≤ t.precedence := by
  cases o <;> simp [toneBegins]

theorem requestTone_of_begins (src : ToneSource) (h : toneBegins s.tone t = true) :
    s.requestTone t src = s.setTone (some { tone := t, source := src, elapsed := 0, steps := 0 }) := by
  rw [State.requestTone, if_pos h]

theorem requestTone_of_outranked (src : ToneSource) (h : toneBegins s.tone t = false) : s.requestTone t src = s := by
  simp [State.requestTone, h]

/-- R137: PLAY TONE names its tone by one of the numbers 0 to 3. -/
theorem toneOf_of_four_le (h : 4 ≤ n) : toneOf n = none := by
  obtain ⟨m, rfl⟩ := Nat.exists_eq_add_of_le' h
  rfl

theorem playTone_of_unnamed (h : toneOf n = none) : s.playTone n = s.refuse .range := by
  rw [State.playTone, h]

theorem playTone_of_begins (hname : toneOf n = some t) (h : toneBegins s.tone t = true) :
    s.playTone n =
      (s.setTone (some { tone := t, source := .host, elapsed := 0, steps := 0 })).done (.toneResult true (some t)) := by
  simp only [State.playTone, hname, requestTone_of_begins .host h, h]
  rfl

theorem playTone_of_outranked {p : Playing} (hname : toneOf n = some t) (hplays : s.tone = some p)
    (h : t.precedence < p.tone.precedence) : s.playTone n = s.done (.toneResult false (some p.tone)) := by
  have houtranked : toneBegins s.tone t = false := by simp [toneBegins, hplays, h]
  simp only [State.playTone, hname, requestTone_of_outranked .host houtranked]
  rw [houtranked, hplays]
  rfl

end toneRequests

/-! ## A tone's end, its steps and its sound (R135) -/

section tonePlays
variable {s : State} {p : Playing}

theorem toneAfterEnd_of_alarm (h : p.tone = .alarm) : toneAfterEnd (some p) = some p := if_pos h

theorem toneAfterEnd_of_not_alarm (h : p.tone ≠ .alarm) : toneAfterEnd (some p) = none := if_neg h

/-- R135: a step of the sound moves its progress only. -/
theorem exec_toneStep_of_playing {k : Nat} (hplays : s.tone = some p) (hnext : nextStep p.tone p.steps = k) :
    exec .toneStep s = .next ({ s with tone := some { p with steps := k } } : State).finish := by
  rw [exec_toneStep, hplays, toneAfterStep, hnext]
  rfl

theorem nextStep_alert {k : Nat} (h : k < 7) : nextStep .alert k = k + 1 := Nat.min_eq_right (by omega)

theorem nextStep_double {k : Nat} (h : k < 2) : nextStep .double k = k + 1 := Nat.min_eq_right (by omega)

theorem sounder_of_playing (hplays : s.tone = some p) : s.sounder = soundOf p.tone p.steps := by
  rw [State.sounder, hplays]
  rfl

theorem sounder_of_silence (h : s.tone = none) : s.sounder = none := by
  rw [State.sounder, h]
  rfl

end tonePlays

/-- Settles O39: PLAY TONE and STOP TONE by their branches, and the end, the step and the sound of each of the four tones. -/
theorem tonesBeginAndEnd : Obligations.TonesBeginAndEnd := by
  unfold Obligations.TonesBeginAndEnd
  refine ⟨fun s tag n htakes hn => ?unnamed, fun s tag n t htakes hname => ⟨fun hfree => ?begins, fun p hplays hlower => ?outranked⟩,
    fun s tag htakes => ?stopped, fun s p hplays => ⟨fun htone => ?ends, fun htone => ?alarmStays, fun htone hsteps => ?alertStep,
      fun htone hsteps => ?doubleStep, fun htone => ?alarmStep, fun htone => ?alarmSound, fun htone hsteps => ?alertSound,
      fun htone hburst => ?doubleBurst, fun htone hgap => ?doubleGap, fun htone => ?chirpSound⟩, fun s => sounder_of_silence⟩
  case unnamed => exact answer_arrive_running (c := .playTone n) htakes rfl (playTone_of_unnamed (toneOf_of_four_le hn))
  case begins =>
    exact answer_arrive_running (c := .playTone n) htakes rfl (playTone_of_begins hname ((toneBegins_iff _).mpr hfree))
  case outranked => exact answer_arrive_running (c := .playTone n) htakes rfl (playTone_of_outranked hname hplays hlower)
  case stopped => exact answer_arrive_running (c := .stopTone) htakes rfl rfl
  case ends =>
    rw [exec_toneEnd, hplays, toneAfterEnd_of_not_alarm htone]
    rfl
  case alarmStays =>
    rw [exec_toneEnd, hplays, toneAfterEnd_of_alarm htone, ← hplays]
    rfl
  case alertStep => exact exec_toneStep_of_playing hplays (by rw [htone, nextStep_alert hsteps])
  case doubleStep => exact exec_toneStep_of_playing hplays (by rw [htone, nextStep_double hsteps])
  case alarmStep => exact exec_toneStep_of_playing hplays (by rw [htone]; rfl)
  all_goals rw [sounder_of_playing hplays, htone]
  case alarmSound => rfl
  case alertSound => exact if_pos hsteps
  case doubleBurst => exact if_neg hburst
  case doubleGap => exact if_pos hgap
  case chirpSound => rfl

/-! ## The open drawer's timer (R130) -/

section openTimer
variable {s : State}

theorem openTimerActs_of_open {u : Nat} (hrun : s.link.part = .running) (hopen : s.drawer.state = .opened ∨ s.drawer.state = .forced)
    (htimer : s.drawer.openTimer = some u) : s.openTimerActs = true := by
  obtain hopened | hforced := hopen
  · simp [State.openTimerActs, hrun, htimer, hopened]
  · simp [State.openTimerActs, hrun, htimer, hforced]

theorem openAlarm_of_unasked (hacts : s.openTimerActs = true) (h : s.drawer.alarmAsked = false) :
    s.openAlarm =
      (s.setDrawer { s.drawer with alarmAsked := true, openTimer := some (sec 30) }).requestTone .alarm .drawerController := by
  rw [State.openAlarm, if_pos ⟨hacts, h⟩]

theorem openAlarm_of_asked (h : s.drawer.alarmAsked = true) : s.openAlarm = s := by
  simp [State.openAlarm, h]

theorem openLong_of_acts (hacts : s.openTimerActs = true) :
    s.openLong = (s.setDrawer { s.drawer with openTimer := none }).raise .drawerOpenLong := by
  rw [State.openLong, if_pos hacts]

end openTimer

/-- Settles O38: the open timer acts, and ALARM is asked for or has been; the reason raised leaves all but the cluster unit and the link. -/
theorem openDrawerAlarms : Obligations.OpenDrawerAlarms := by
  unfold Obligations.OpenDrawerAlarms
  intro s u hrun hopen htimer
  have hacts := openTimerActs_of_open hrun hopen htimer
  refine ⟨fun hunasked => ?alarm, fun hasked => ?once, _, exec_openTimerLong s, ?long⟩
  case alarm =>
    rw [exec_openTimerAlarm, openAlarm_of_unasked hacts hunasked]
    rfl
  case once => rw [exec_openTimerAlarm, openAlarm_of_asked hasked]
  case long =>
    rw [openLong_of_acts hacts]
    simp

/-! ## Requests of the consumers leave the own wanted set (R57 to R60, R64) -/

section wanted
variable (c : Cluster) (k : Consumer)

@[simp] theorem setConsumer_wanted (r : ConsumerRec) : (c.setConsumer k r).wanted = c.wanted := by cases k <;> rfl

@[simp] theorem replaceOut_wanted (kind : OutBody → Bool) (b : OutBody) : (c.replaceOut kind b).wanted = c.wanted := by
  unfold Cluster.replaceOut
  split <;> rfl

@[simp] theorem requestSupply_wanted (b : OutBody) : (c.requestSupply b k).wanted = c.wanted := by
  unfold Cluster.requestSupply
  split
  · rfl
  · exact replaceOut_wanted c _ b

@[simp] theorem requestRelease_wanted : (c.requestRelease k).wanted = c.wanted := by
  obtain ⟨out, age, held, h⟩ := requestRelease_eq c k
  rw [h]

@[simp] theorem loneClaim_wanted (lo hi : Nat) (topup : Bool) : (c.loneClaim k lo hi topup).wanted = c.wanted := by
  unfold Cluster.loneClaim
  dsimp only
  split <;> simp

@[simp] theorem askClaim_wanted (lo hi : Nat) : (c.askClaim k lo hi).wanted = c.wanted := by
  unfold Cluster.askClaim
  split <;> simp

@[simp] theorem askTopup_wanted (hi : Nat) : (c.askTopup hi).wanted = c.wanted := by
  unfold Cluster.askTopup
  split <;> simp

@[simp] theorem askAgain_wanted : (c.askAgain k).wanted = c.wanted := by
  unfold Cluster.askAgain
  split <;> simp

@[simp] theorem retryEvent_wanted : c.retryEvent.wanted = c.wanted := by simp [Cluster.retryEvent]

@[simp] theorem clearRequest_wanted : (c.clearRequest k).wanted = c.wanted := by simp [Cluster.clearRequest]

end wanted

/-! ## The print engine writes the paper path only (R138 to R148) -/

/-- `t` is `s` up to the blocks that the print engine's row start writes beside the cluster unit: the link's notices, the conversion unit's
requests, the engine, the composer and the journal's reads. -/
def SameOutsidePaper (s t : State) : Prop :=
  ∃ l sc e c j, t = { s with link := l, scale := sc, engine := e, composer := c, journal := j }

namespace SameOutsidePaper

theorem refl (s : State) : SameOutsidePaper s s := ⟨_, _, _, _, _, rfl⟩

theorem after {s t u : State} (k : SameOutsidePaper t u) (h : SameOutsidePaper s t) : SameOutsidePaper s u := by
  obtain ⟨_, _, _, _, _, rfl⟩ := h
  obtain ⟨_, _, _, _, _, rfl⟩ := k
  exact ⟨_, _, _, _, _, rfl⟩

theorem setEngine (s : State) (e : Engine) : SameOutsidePaper s (s.setEngine e) := ⟨_, _, _, _, _, rfl⟩

theorem setComposer (s : State) (c : Composer) : SameOutsidePaper s (s.setComposer c) := ⟨_, _, _, _, _, rfl⟩

theorem requestTemperature (s : State) : SameOutsidePaper s s.requestTemperature := ⟨_, _, _, _, _, rfl⟩

theorem putEngine (s : State) (e : Engine) (x : Option JobOutcome) : SameOutsidePaper s (s.putEngine e x) := by
  unfold State.putEngine
  dsimp only
  split <;> exact ⟨_, _, _, _, _, rfl⟩

theorem footerReached (s : State) : SameOutsidePaper s s.footerReached := by
  obtain ⟨st, h⟩ := footerReached_eq s
  exact h ▸ setComposer s _

theorem seekCopy (s : State) : SameOutsidePaper s s.seekCopy := by
  unfold State.seekCopy
  split
  · exact refl s
  · split
    · exact ⟨_, _, _, _, _, rfl⟩
    · exact refl s

theorem stageRow (s : State) : SameOutsidePaper s s.stageRow := by
  unfold State.stageRow
  split
  · split
    · split
      · exact setEngine s _
      · exact refl s
    · split
      · exact (setEngine _ _).after ((seekCopy _).after ((footerReached _).after (setComposer s _)))
      · exact refl s
  · exact refl s

theorem transfer (s : State) (r : StagedRow) : SameOutsidePaper s (s.transfer r) :=
  (stageRow _).after ((requestTemperature _).after (putEngine s _ none))

theorem startStaged (s : State) : SameOutsidePaper s s.startStaged := by
  unfold State.startStaged
  split
  · split
    · exact putEngine s _ none
    · exact transfer s _
  · exact refl s

theorem startRow (s : State) : SameOutsidePaper s s.startRow := by
  refine after ?_ (stageRow s)
  unfold State.startRow
  dsimp only
  split
  · exact startStaged _
  · split
    · exact putEngine _ _ none
    · split
      · exact putEngine _ _ none
      · exact (startStaged _).after ((stageRow _).after (putEngine _ _ none))
      · exact putEngine _ _ none

end SameOutsidePaper

/-! ## What supply means to the till (R52, R57 to R60, R126) -/

/-- What a grant, a release and what these bring leave as it was, of what the drawer controller reads and O37 speaks of. The drawer's own record
stands unless it waits in CLAIMING, where a grant starts the kick (R126). -/
structure TillFrame (s t : State) : Prop where
  sale : t.sale = s.sale
  sense : t.sense = s.sense
  wanted : t.cluster.wanted = s.cluster.wanted
  drawer : s.drawer.state ≠ .claiming → t.drawer = s.drawer

namespace TillFrame

theorem refl (s : State) : TillFrame s s := ⟨rfl, rfl, rfl, fun _ => rfl⟩

theorem after {s t u : State} (k : TillFrame t u) (h : TillFrame s t) : TillFrame s u where
  sale := k.sale.trans h.sale
  sense := k.sense.trans h.sense
  wanted := k.wanted.trans h.wanted
  drawer hstate := (k.drawer (by rwa [h.drawer hstate])).trans (h.drawer hstate)

theorem of_sameOutsidePaper {s t : State} (h : SameOutsidePaper s t) : TillFrame s t := by
  obtain ⟨_, _, _, _, _, rfl⟩ := h
  exact ⟨rfl, rfl, rfl, fun _ => rfl⟩

theorem setCluster (s : State) {c : Cluster} (h : c.wanted = s.cluster.wanted) : TillFrame s (s.setCluster c) :=
  ⟨rfl, rfl, h, fun _ => rfl⟩

theorem rowStart (s : State) : TillFrame s s.rowStart := by
  have started (t : State) : TillFrame t t.startRow := of_sameOutsidePaper (SameOutsidePaper.startRow t)
  have claiming : TillFrame s (s.engineTo .claiming) := of_sameOutsidePaper (SameOutsidePaper.putEngine s _ none)
  have asked := (setCluster (s.engineTo .claiming)
    (askClaim_wanted _ .printer 3 (s.engineTo .claiming).engine.claimMax)).after claiming
  unfold State.rowStart
  dsimp only
  split
  · exact of_sameOutsidePaper (SameOutsidePaper.putEngine s _ none)
  · split
    · split
      · split
        · exact asked
        · exact (started _).after asked
      · split
        · exact claiming
        · exact (started _).after claiming
    · exact started s

theorem tellPrinter (s : State) : TillFrame s s.tellPrinter := by
  unfold State.tellPrinter
  split
  · exact rowStart s
  · exact refl s

theorem tellDrawer (s : State) : TillFrame s s.tellDrawer := by
  unfold State.tellDrawer
  split
  · next h => exact ⟨by simp [State.enterKicking], by simp [State.enterKicking], by simp [State.enterKicking],
      fun hstate => absurd h.1 hstate⟩
  · exact refl s

theorem topupAfterRelease (s : State) : TillFrame s s.topupAfterRelease := by
  unfold State.topupAfterRelease
  split
  · exact setCluster s (askTopup_wanted _ _)
  · exact refl s

theorem enterListen (s : State) : TillFrame s s.enterListen := by
  have listening : TillFrame s (s.updateCluster s.cluster.listening) :=
    ⟨by simp, by simp, by rw [updateCluster_cluster]; rfl, fun _ => by simp⟩
  refine after ?_ listening
  obtain h | h := setMode_eq (s.updateCluster s.cluster.listening) .full .listen
  · rw [State.enterListen, h]
    exact ⟨rfl, rfl, rfl, fun _ => rfl⟩
  · rw [State.enterListen, h]
    exact ⟨rfl, rfl, rfl, fun _ => rfl⟩

theorem leaveLoneWhenFree (s : State) : TillFrame s s.leaveLoneWhenFree := by
  unfold State.leaveLoneWhenFree
  split
  · exact enterListen s
  · exact refl s

theorem loneRelease (s : State) (k : Consumer) : TillFrame s (s.loneRelease k) := by
  unfold State.loneRelease
  split
  · exact refl s
  · exact (leaveLoneWhenFree _).after ((tellDrawer _).after ((tellPrinter _).after ((topupAfterRelease _).after
      (setCluster s (by simp)))))

theorem releaseHolding (s : State) (k : Consumer) : TillFrame s (s.releaseHolding k) := by
  have cleared := setCluster s (clearRequest_wanted s.cluster k)
  unfold State.releaseHolding
  dsimp only
  split
  · exact (loneRelease _ k).after cleared
  · exact (setCluster _ (requestRelease_wanted _ k)).after cleared

end TillFrame

/-! ## The entries to the drawer's states (R124, R126 to R130, R133) -/

section entries
variable (s : State)

/-- R133: with or without the notice of a change of state, the record put is the drawer's record. -/
@[simp] theorem putDrawer_drawer (d : Drawer) (handed : Bool) : (s.putDrawer d handed).drawer = d := by
  unfold State.putDrawer
  dsimp only
  split <;> rfl

@[simp] theorem testCompletion_drawer : s.testCompletion.drawer = s.drawer := by
  unfold State.testCompletion
  split <;> rfl

theorem enterOpen_drawer :
    s.enterOpen.drawer = { s.countOpening.drawer.settle with state := .opened, openTimer := some 0, alarmAsked := false } := by
  simp [State.enterOpen]

theorem enterClosed_drawer (handed : Bool) :
    (s.enterClosed handed).drawer = { s.drawer.settle with state := .closed, openTimer := none } := by
  simp [State.enterClosed]

theorem enterJammed_drawer (cause : JamCause) :
    (s.enterJammed cause).drawer = { s.drawer.settle with state := .jammed, jam := some cause } := by
  simp [State.enterJammed]

@[simp] theorem enterJammed_sale (cause : JamCause) : (s.enterJammed cause).sale = s.sale := by simp [State.enterJammed]

@[simp] theorem enterJammed_wanted (cause : JamCause) :
    (s.enterJammed cause).cluster.wanted = s.cluster.wanted.add .drawerJam := by
  simp [State.enterJammed]

/-- R126: a claim entered waits for its grant, or in LONE has its grant and its kick at once (R60). -/
theorem enterClaiming_drawer :
    s.enterClaiming.drawer = { s.drawer with state := .claiming, claimTimer := some 0 } ∨
    s.enterClaiming.drawer =
      { s.drawer with state := .kicking, claimTimer := none, pulseTimer := some 0, openedMark := false } := by
  unfold State.enterClaiming State.tellDrawer
  dsimp only
  split
  · exact .inr (by simp [State.enterKicking])
  · exact .inl (by simp)

@[simp] theorem enterClaiming_sale : s.enterClaiming.sale = s.sale := by
  unfold State.enterClaiming
  simp [(TillFrame.tellDrawer _).sale]

end entries

/-! ## The drawer's timers (R126 to R129) -/

section timers
variable {s : State} {u : Nat}

/-- R126, R127: the drawer's record replaced and its holding released. -/
def releasedWith (s : State) (d : Drawer) : State := (s.setDrawer d).releaseHolding .drawer

theorem releasedWith_frame (s : State) (d : Drawer) : TillFrame (s.setDrawer d) (releasedWith s d) :=
  TillFrame.releaseHolding _ _

theorem claimExpires_of_claiming (hstate : s.drawer.state = .claiming) (htimer : s.drawer.claimTimer = some u) :
    s.claimExpires = (releasedWith s { s.drawer with claimTimer := none }).enterJammed .supply := by
  simp only [State.claimExpires, hstate, htimer]
  rfl

theorem pulseEnds_of_kicking (hstate : s.drawer.state = .kicking) (htimer : s.drawer.pulseTimer = some u) :
    s.pulseEnds = (releasedWith s { s.drawer with pulseTimer := none }).afterPulse := by
  simp only [State.pulseEnds, hstate, htimer]
  rfl

theorem afterPulse_of_unopened (h : s.drawer.openedMark = false) :
    s.afterPulse = s.putDrawer { s.drawer with state := .confirm, confirmTimer := some 0 } false := by
  simp [State.afterPulse, h]

theorem afterPulse_of_shutAgain (hmark : s.drawer.openedMark = true) (hshut : s.sense.watchDrawer.matching = true) :
    s.afterPulse = s.countOpening.enterClosed s.drawer.noSale := by
  simp [State.afterPulse, hmark, hshut]

theorem afterPulse_of_open (hmark : s.drawer.openedMark = true) (hopen : s.sense.watchDrawer.matching = false) :
    s.afterPulse = s.enterOpen := by
  simp [State.afterPulse, hmark, hopen]

theorem confirmExpires_of_first (hstate : s.drawer.state = .confirm) (htimer : s.drawer.confirmTimer = some u)
    (hretry : s.drawer.retryCount = 0) :
    s.confirmExpires =
      s.putDrawer { s.drawer with state := .retryGap, retryCount := 1, confirmTimer := none, gapTimer := some 0 } false := by
  simp only [State.confirmExpires, hstate, htimer, if_pos hretry]

theorem confirmExpires_of_retried (hstate : s.drawer.state = .confirm) (htimer : s.drawer.confirmTimer = some u)
    (hretry : s.drawer.retryCount ≠ 0) : s.confirmExpires = s.enterJammed .noOpen := by
  simp only [State.confirmExpires, hstate, htimer, if_neg hretry]

theorem gapExpires_of_retryGap (hstate : s.drawer.state = .retryGap) (htimer : s.drawer.gapTimer = some u) :
    s.gapExpires = (s.setDrawer { s.drawer with gapTimer := none }).enterClaiming := by
  simp only [State.gapExpires, hstate, htimer]

end timers

/-- Settles O37: each timer's branch, by the entry that it makes; a release of the holding leaves the till's frame, in KICKING with the drawer's
record. -/
theorem drawerTimersExpire : Obligations.DrawerTimersExpire := by
  unfold Obligations.DrawerTimersExpire
  refine ⟨fun s u hstate htimer => ⟨_, exec_claimTimer s, ?claim⟩, fun s u hstate htimer => ⟨_, exec_pulseTimer s, ?pulse⟩,
    fun s u hstate htimer => ⟨_, exec_confirmTimer s, ?confirm⟩, fun s u hstate htimer => ⟨_, exec_retryGapTimer s, ?gap⟩⟩
  case claim =>
    have frame := releasedWith_frame s { s.drawer with claimTimer := none }
    rw [claimExpires_of_claiming hstate htimer]
    simp [enterJammed_drawer, Drawer.settle, frame.wanted, frame.sale]
  case pulse =>
    have frame := releasedWith_frame s { s.drawer with pulseTimer := none }
    have hdrawer : (releasedWith s { s.drawer with pulseTimer := none }).drawer = { s.drawer with pulseTimer := none } :=
      frame.drawer (by simp [hstate])
    have hsense : (releasedWith s { s.drawer with pulseTimer := none }).sense = s.sense := frame.sense
    rw [pulseEnds_of_kicking hstate htimer]
    generalize releasedWith s { s.drawer with pulseTimer := none } = t at frame hdrawer hsense
    have hmark : t.drawer.openedMark = s.drawer.openedMark := by rw [hdrawer]
    rw [← hmark, ← hsense]
    cases hopened : t.drawer.openedMark
    case false => simp [afterPulse_of_unopened hopened, hdrawer, frame.sale]
    case true =>
      cases hshut : t.sense.watchDrawer.matching
      case false => simp [afterPulse_of_open hopened hshut, enterOpen_drawer, Drawer.settle]
      case true => simp [afterPulse_of_shutAgain hopened hshut, enterClosed_drawer, Drawer.settle]
  case confirm =>
    by_cases hretry : s.drawer.retryCount = 0
    · simp [confirmExpires_of_first hstate htimer hretry, hretry]
    · simp [confirmExpires_of_retried hstate htimer hretry, enterJammed_drawer, Drawer.settle, hretry]
  case gap =>
    rw [gapExpires_of_retryGap hstate htimer]
    obtain hclaims | hkicks := enterClaiming_drawer (s.setDrawer { s.drawer with gapTimer := none })
    · simp [hclaims]
    · simp [hkicks]

end Sys2Proof.Machine.TonesAndDrawer
end

section
/-! SUPPORT. The reply list, the notice queue and the text line queue (R156, R182, R183): what every operation of the model leaves of their bounds,
operation by operation in the order of the model, and the statement O54 settled from it. -/

namespace Sys2Proof.Machine.QueueBounds

/-! ## The order of the notice queue (R183) -/

/-- A notice queue in order of priority, the highest first. -/
def ByPriority (q : List Notice) : Prop := q.Pairwise (fun m n => n.priority ≤ m.priority)

theorem mem_insertNotice (n m : Notice) : ∀ q : List Notice, m ∈ insertNotice n q → m = n ∨ m ∈ q
  | [], h => .inl (List.mem_singleton.mp h)
  | x :: xs, h => by
    unfold insertNotice at h
    split at h
    · exact List.mem_cons.mp h
    · obtain rfl | htail := List.mem_cons.mp h
      · exact .inr List.mem_cons_self
      · exact (mem_insertNotice n m xs htail).imp_right (List.mem_cons_of_mem x)

/-- R183: a notice put behind every one of its own or a higher priority keeps the order. -/
theorem byPriority_insertNotice (n : Notice) : ∀ q : List Notice, ByPriority q → ByPriority (insertNotice n q)
  | [], _ => List.pairwise_singleton _ n
  | x :: xs, h => by
    obtain ⟨hhead, htail⟩ := List.pairwise_cons.mp h
    unfold insertNotice
    split
    · next hlower =>
      refine List.pairwise_cons.mpr ⟨fun m hm => ?_, h⟩
      obtain rfl | hm := List.mem_cons.mp hm
      · omega
      · have := hhead m hm
        omega
    · next hnotLower =>
      refine List.pairwise_cons.mpr ⟨fun m hm => ?_, byPriority_insertNotice n xs htail⟩
      obtain rfl | hm := mem_insertNotice n m xs hm
      · omega
      · exact hhead m hm

theorem priority_of_isWeight {m n : Notice} (hm : m.isWeight = true) (hn : n.isWeight = true) : m.priority = n.priority := by
  cases m <;> simp [Notice.isWeight] at hm
  cases n <;> simp [Notice.isWeight] at hn
  rfl

/-- R183: a WEIGHT notice that replaces a queued one has its priority. -/
theorem byPriority_replaceWeight {n : Notice} (hn : n.isWeight = true) {q : List Notice} (h : ByPriority q) :
    ByPriority (q.map (fun m => if m.isWeight then n else m)) := by
  have keeps (m : Notice) : (if m.isWeight then n else m).priority = m.priority := by
    split
    · next hm => exact priority_of_isWeight hn hm
    · rfl
  exact List.pairwise_map.mpr (h.imp fun hle => by rwa [keeps, keeps])

theorem byPriority_place {l : Link} (n : Notice) (h : ByPriority l.notices) : ByPriority (l.place n).notices := by
  unfold Link.place
  split
  · next hweight => exact byPriority_replaceWeight (Bool.and_eq_true_iff.mp hweight).1 h
  · split
    · exact h
    · exact byPriority_insertNotice n _ h

/-- R183: the transmitter's choice leaves the queue or takes its head. -/
theorem byPriority_pump {l : Link} (r : Option CardRecord) (h : ByPriority l.notices) : ByPriority (l.pump r).notices := by
  unfold Link.pump
  split
  · exact h
  · split
    · exact h
    · split
      · next hq => exact (List.pairwise_cons.mp (hq ▸ h)).2
      · exact h

/-! ## The bounds, with a number of reply places -/

/-- At most `n` reply places are in use, a READ JOURNAL in progress has its place reserved, and the notice queue and the text line queue are
within their bounds. While a command is carried out `n` is one less than the part has, so that its reply finds a place. -/
structure Fits (n : Nat) (s : State) : Prop where
  places : s.link.places ≤ n
  reserved : s.journal.reader.isSome = true → s.link.reserved.isSome = true
  notices : s.noticesWf
  text : s.textWf

theorem fits_iff (s : State) : Fits replyPlaces s ↔ s.repliesWf ∧ s.noticesWf ∧ s.textWf :=
  ⟨fun h => ⟨⟨h.places, h.reserved⟩, h.notices, h.text⟩, fun ⟨⟨hp, hr⟩, hn, ht⟩ => ⟨hp, hr, hn, ht⟩⟩

/-! ## What the journal's own operations leave: the READ JOURNAL in progress -/

section reader
variable (j : Journal)

@[simp] theorem arbitrate_reader : j.arbitrate.reader = j.reader := by
  obtain ⟨a, h⟩ := arbitrate_eq j
  rw [h]

@[simp] theorem ask_reader (op : ArrayOp) : (j.ask op).reader = j.reader := by
  obtain ⟨a, h⟩ := ask_eq j op
  rw [h]

@[simp] theorem setBlock_reader (b : Nat) (v : Option BlockState) : (j.setBlock b v).reader = j.reader := rfl

@[simp] theorem addSeq_reader (b : Nat) (q : Seq) : (j.addSeq b q).reader = j.reader := by
  unfold Journal.addSeq
  split <;> rfl

@[simp] theorem moveWritePoint_reader (n : Nat) : (j.moveWritePoint n).reader = j.reader := by
  unfold Journal.moveWritePoint
  split <;> rfl

@[simp] theorem askAppend_reader (t : TakenAppend) : (j.askAppend t).reader = j.reader := by
  unfold Journal.askAppend
  split <;> simp

@[simp] theorem commit_reader (t : TakenAppend) : (j.commit t).reader = j.reader := by
  unfold Journal.commit
  dsimp only
  split <;> split <;> simp

@[simp] theorem stopForFault_reader (p : Bool) : (j.stopForFault p).reader = j.reader := by
  unfold Journal.stopForFault
  dsimp only
  rw [arbitrate_reader]
  split <;> rfl

@[simp] theorem askIdentity_reader (w : IdentityWrite) : (j.askIdentity w).reader = j.reader := by
  unfold Journal.askIdentity
  split <;> simp

@[simp] theorem startIdentity_reader (store : Nat) (label : Text) : (j.startIdentity store label).reader = j.reader := by
  unfold Journal.startIdentity
  dsimp only
  split <;> simp

@[simp] theorem blockErasedNow_reader (b : Nat) : (j.blockErasedNow b).reader = j.reader := by
  unfold Journal.blockErasedNow
  dsimp only
  split
  · split <;> rfl
  · rfl

@[simp] theorem identityErased_reader : j.identityErased.reader = j.reader := by
  unfold Journal.identityErased
  dsimp only
  split <;> simp

@[simp] theorem scanRead_reader : j.scanRead.reader = j.reader := by
  unfold Journal.scanRead
  split
  · split <;> simp
  · rfl

@[simp] theorem scanned_reader : j.scanned.reader = j.reader := rfl

@[simp] theorem dropScan_reader : j.dropScan.reader = j.reader := by simp [Journal.dropScan]

@[simp] theorem tick_reader : j.tick.reader = j.reader := by
  unfold Journal.tick
  split <;> rfl

end reader

/-! ## What shared operations leave of the link -/

@[simp] theorem betweenOperations_link (s : State) : s.betweenOperations.link = s.link := by
  obtain ⟨a, h⟩ := betweenOperations_eq s
  rw [h]
  rfl

theorem reply_places (s : State) (kind tag : Byte) (b : ReplyBody) : (s.reply kind tag b).link.places = s.link.places + 1 := by
  simp only [reply_link, Link.places, List.length_append, List.length_singleton]
  exact Nat.add_right_comm _ 1 _

theorem answerReader_places {s : State} (hreserved : s.link.reserved.isSome = true) (tag : Byte) (b : ReplyBody) :
    (s.answerReader tag b).link.places = s.link.places :=
  (reply_places _ _ _ _).trans (by simp [Link.places, hreserved])

/-! ## The line that leaves the text line queue (R143), and the room for one that enters (R156) -/

theorem nextRow_length_le {s : State} {l : LineInPrint} {q : List Text} (h : s.nextRow = some (l, q)) :
    q.length ≤ s.composer.queue.length := by
  have fromQueue : ∀ p : List Text, (match p with
      | t :: ts => some (({ text := t, nextRow := 0 } : LineInPrint), ts)
      | [] => none) = some (l, q) → q.length ≤ p.length
    | _ :: _, hp => by cases hp; simp
  unfold State.nextRow at h
  dsimp only at h
  split at h
  · split at h
    · cases h
      exact Nat.le_refl _
    · exact fromQueue _ h
  · exact fromQueue _ h

theorem length_of_hasRoom {c : Composer} (h : c.hasRoom = true) : c.queue.length < 8 :=
  of_decide_eq_true (Bool.and_eq_true_iff.mp h).2

@[simp] theorem begin_queue (c : Composer) (k : JobKind) : (c.begin k).queue = c.queue := rfl

namespace Fits

variable {n : Nat} {s t : State}

/-! ## The fields of the state -/

/-- A state with the same replies, notices, READ JOURNAL and text lines fits as well. -/
theorem congr (h : Fits n s) (hreplies : t.link.replies = s.link.replies) (hreserved : t.link.reserved = s.link.reserved)
    (hnotices : t.link.notices = s.link.notices) (hreader : t.journal.reader = s.journal.reader)
    (htext : t.composer.queue = s.composer.queue) : Fits n t where
  places := by simpa only [Link.places, hreplies, hreserved] using h.places
  reserved := by simpa only [hreader, hreserved] using h.reserved
  notices := by simpa only [State.noticesWf, hnotices] using h.notices
  text := by simpa only [State.textWf, htext] using h.text

theorem setSale (h : Fits n s) (x : Sale) : Fits n (s.setSale x) := h.congr rfl rfl rfl rfl rfl
theorem setCluster (h : Fits n s) (x : Cluster) : Fits n (s.setCluster x) := h.congr rfl rfl rfl rfl rfl
theorem setScale (h : Fits n s) (x : Scale) : Fits n (s.setScale x) := h.congr rfl rfl rfl rfl rfl
theorem setCapture (h : Fits n s) (x : Capture) : Fits n (s.setCapture x) := h.congr rfl rfl rfl rfl rfl
theorem setBagging (h : Fits n s) (x : Bagging) : Fits n (s.setBagging x) := h.congr rfl rfl rfl rfl rfl
theorem setCard (h : Fits n s) (x : Card) : Fits n (s.setCard x) := h.congr rfl rfl rfl rfl rfl
theorem setAuthority (h : Fits n s) (x : Authority) : Fits n (s.setAuthority x) := h.congr rfl rfl rfl rfl rfl
theorem setSense (h : Fits n s) (x : Sense) : Fits n (s.setSense x) := h.congr rfl rfl rfl rfl rfl
theorem setDrawer (h : Fits n s) (x : Drawer) : Fits n (s.setDrawer x) := h.congr rfl rfl rfl rfl rfl
theorem setTone (h : Fits n s) (x : Option Playing) : Fits n (s.setTone x) := h.congr rfl rfl rfl rfl rfl
theorem setEngine (h : Fits n s) (x : Engine) : Fits n (s.setEngine x) := h.congr rfl rfl rfl rfl rfl
theorem setFresh (h : Fits n s) (x : Nat) : Fits n (s.setFresh x) := h.congr rfl rfl rfl rfl rfl
theorem setPending (h : Fits n s) (x : List Instr) : Fits n (s.setPending x) := h.congr rfl rfl rfl rfl rfl

/-- The part state, the assembler, the LOST mark and the message being sent do not count. -/
theorem setLink (h : Fits n s) (x : Link) (hreplies : x.replies = s.link.replies := by simp)
    (hreserved : x.reserved = s.link.reserved := by simp) (hnotices : x.notices = s.link.notices := by simp) : Fits n (s.setLink x) :=
  h.congr hreplies hreserved hnotices rfl rfl

/-- Of the journal only the READ JOURNAL in progress counts. -/
theorem setJournal (h : Fits n s) (x : Journal) (hreader : x.reader = s.journal.reader := by simp) : Fits n (s.setJournal x) :=
  h.congr rfl rfl rfl hreader rfl

/-- With a reply place reserved, any READ JOURNAL may be in progress. -/
theorem setJournal_of_reserved (h : Fits n s) (hreserved : s.link.reserved.isSome = true) (x : Journal) : Fits n (s.setJournal x) :=
  ⟨h.places, fun _ => hreserved, h.notices, h.text⟩

theorem setComposer (h : Fits n s) (x : Composer) (hqueue : x.queue.length ≤ 8) : Fits n (s.setComposer x) :=
  ⟨h.places, h.reserved, h.notices, hqueue⟩

/-- The composer with its queue as it was. -/
theorem sameQueue (h : Fits n s) (x : Composer) (hqueue : x.queue = s.composer.queue := by simp) : Fits n (s.setComposer x) :=
  h.congr rfl rfl rfl rfl hqueue

/-! ## Branches -/

theorem branch {c : Prop} [Decidable c] (hs : Fits n s) (ht : Fits n t) : Fits n (if c then s else t) := by
  split
  · exact hs
  · exact ht

/-- What is done under a condition alone. -/
theorem perhaps {c : Prop} [Decidable c] (h : Fits n s) (hdone : Fits n s → Fits n t) : Fits n (if c then t else s) :=
  (hdone h).branch h

/-- What is done unless a condition holds. -/
theorem otherwise {c : Prop} [Decidable c] (h : Fits n s) (hdone : Fits n s → Fits n t) : Fits n (if c then s else t) :=
  h.branch (hdone h)

theorem foldl {α : Type} {f : State → α → State} (h : Fits n s) (hf : ∀ {u : State} (a : α), Fits n u → Fits n (f u a))
    (l : List α) : Fits n (l.foldl f s) := by
  induction l generalizing s with
  | nil => exact h
  | cons a as ih => exact ih (hf a h)

/-! ## Replies, notices and the transmitter (R182, R183) -/

theorem notice (h : Fits n s) (x : Notice) : Fits n (s.notice x) where
  places := by simpa [notice_link] using h.places
  reserved := by simpa [notice_link] using h.reserved
  notices := ⟨Link.place_notices_le _ x h.notices.1, byPriority_place x h.notices.2⟩
  text := h.text

theorem noticeAll (h : Fits n s) (xs : List Notice) : Fits n (s.noticeAll xs) := h.foldl (fun x hu => hu.notice x) xs

/-- R182: a reply takes one place more. -/
theorem reply (h : Fits n s) (kind tag : Byte) (b : ReplyBody) : Fits (n + 1) (s.reply kind tag b) where
  places := reply_places s kind tag b ▸ Nat.succ_le_succ h.places
  reserved := h.reserved
  notices := h.notices
  text := h.text

/-- A place free is one that the rest do without. -/
theorem of_places_lt (h : Fits (n + 1) s) (hfree : s.link.places < n + 1) : Fits n s :=
  ⟨Nat.le_of_lt_succ hfree, h.reserved, h.notices, h.text⟩

theorem finish (h : Fits n s) : Fits n s.finish where
  places := by simpa [finish_link] using h.places
  reserved := by simpa [finish_link] using h.reserved
  notices := by
    rw [State.noticesWf, finish_link]
    exact ⟨Nat.le_trans (Link.pump_notices_le _ _) h.notices.1, byPriority_pump _ h.notices.2⟩
  text := h.text

theorem linkError (h : Fits n s) (e : LinkErrors) (chars : Nat) : Fits n (s.linkError e chars) := h.notice _

theorem requestTemperature (h : Fits n s) : Fits n s.requestTemperature := h.setScale _

theorem requestTone (h : Fits n s) (x : ToneName) (src : ToneSource) : Fits n (s.requestTone x src) := h.perhaps (·.setTone _)

theorem stopDrawerAlarm (h : Fits n s) : Fits n s.stopDrawerAlarm := by
  unfold State.stopDrawerAlarm
  split
  · exact h.perhaps (·.setTone _)
  · exact h

/-! ## The cluster unit's notices (R36, R64, R67) -/

theorem updateCluster (h : Fits n s) (c : Cluster) : Fits n (s.updateCluster c) := (h.setCluster c).branch ((h.setCluster c).notice _)

theorem stationNotice (h : Fits n s) (before : StationState) : Fits n (s.stationNotice before) := h.notice _

theorem setMode (h : Fits n s) (m : LineMode) (x : LineModeCause) : Fits n (s.setMode m x) := h.branch ((h.setCluster _).notice _)

theorem setWanted (h : Fits n s) (r : Reasons) : Fits n (s.setWanted r) := h.branch (h.updateCluster _)

theorem raise (h : Fits n s) (r : CallReason) : Fits n (s.raise r) := h.setWanted _

theorem withdraw (h : Fits n s) (r : CallReason) : Fits n (s.withdraw r) := h.setWanted _

/-! ## The composer (R155 to R164) -/

theorem footerReached (h : Fits n s) : Fits n s.footerReached := by
  obtain ⟨st, hst⟩ := footerReached_eq s
  exact hst ▸ h.sameQueue _

theorem composerVerdict (h : Fits n s) : Fits n s.composerVerdict := by
  obtain ⟨st, hst⟩ := composerVerdict_eq s
  exact hst ▸ h.sameQueue _

theorem seekCopy (h : Fits n s) : Fits n s.seekCopy := by
  unfold State.seekCopy
  split
  · exact h
  · exact h.perhaps fun h => (h.sameQueue _).setJournal _

/-- R156: a line is placed while fewer than 8 are queued. -/
theorem putLine (h : Fits n s) (hroom : s.composer.hasRoom = true) (x : Text) (c : Cursor) : Fits n (s.putLine x c) := by
  refine h.setComposer _ ?_
  have := length_of_hasRoom hroom
  simp only [List.length_append, List.length_singleton]
  omega

theorem putUnreadable (h : Fits n s) (hroom : s.composer.hasRoom = true) : Fits n s.putUnreadable :=
  (h.putLine hroom _ _).sameQueue _

theorem composeLine (h : Fits n s) : Fits n s.composeLine := by
  unfold State.composeLine
  split
  · next hroom =>
    split
    · exact (h.putLine hroom _ _).footerReached.seekCopy
    · exact (h.putUnreadable hroom).seekCopy.branch h.footerReached.seekCopy
    · exact h
  · exact h

theorem copyRead (h : Fits n s) (a k : Nat) : Fits n (s.copyRead a k) := by
  unfold State.copyRead
  split
  · exact h
  · exact h.perhaps fun h => (h.sameQueue _).seekCopy

/-! ## The print engine (R138 to R153) -/

theorem putEngine (h : Fits n s) (e : Engine) (x : Option JobOutcome) : Fits n (s.putEngine e x) :=
  (h.setEngine e).perhaps (·.notice _)

theorem engineTo (h : Fits n s) (st : EngineState) : Fits n (s.engineTo st) := h.putEngine _ _

/-- R143: a row staged from the queue takes its line out of it. -/
theorem stageRow (h : Fits n s) : Fits n s.stageRow := by
  unfold State.stageRow
  split
  · split
    · exact h.perhaps (·.setEngine _)
    · split
      · next hrow =>
        have taken := h.setComposer { s.composer with queue := _ } (Nat.le_trans (nextRow_length_le hrow) h.text)
        exact taken.footerReached.seekCopy.setEngine _
      · exact h
  · exact h

theorem transfer (h : Fits n s) (r : StagedRow) : Fits n (s.transfer r) := (h.putEngine _ _).requestTemperature.stageRow

theorem startStaged (h : Fits n s) : Fits n s.startStaged := by
  unfold State.startStaged
  split
  · exact (h.engineTo _).branch (h.transfer _)
  · exact h

theorem startRow (h : Fits n s) : Fits n s.startRow := by
  have staged := h.stageRow
  unfold State.startRow
  dsimp only
  split
  · exact staged.startStaged
  · split
    · exact staged.engineTo _
    · split
      · exact staged.engineTo _
      · exact (staged.putEngine _ _).stageRow.startStaged
      · exact staged.engineTo _

theorem pauseMedia (h : Fits n s) : Fits n s.pauseMedia := h.putEngine _ _

theorem rowStart (h : Fits n s) : Fits n s.rowStart :=
  h.pauseMedia.branch ((((h.engineTo .claiming).perhaps (·.setCluster _)).otherwise (·.startRow)).branch h.startRow)

theorem tellPrinter (h : Fits n s) : Fits n s.tellPrinter := h.perhaps (·.rowStart)

theorem startCut (h : Fits n s) : Fits n s.startCut := h.putEngine _ _

theorem rowBoundary (h : Fits n s) (feed : Bool) : Fits n (s.rowBoundary feed) :=
  (h.setEngine _).startCut.branch (h.setEngine _).rowStart

theorem lineQueued (h : Fits n s) : Fits n s.lineQueued := by
  unfold State.lineQueued
  split
  · exact h.stageRow
  · exact h.rowStart
  · exact h.rowStart
  · exact h

theorem temperatureResult (h : Fits n s) (x : Int) : Fits n (s.temperatureResult x) := by
  have read := h.setEngine
  unfold State.temperatureResult
  dsimp only
  split
  · exact (read _).perhaps (·.rowStart)
  · exact (read _).perhaps (·.rowStart)
  · exact (read _).perhaps (·.rowStart)
  · exact read _

theorem holdingFell (h : Fits n s) : Fits n s.holdingFell := by
  refine (h.setEngine _).branch ?_
  split
  · exact (h.setEngine _).rowStart
  · exact (h.setEngine _).rowStart
  · exact h.setEngine _
  · exact h

theorem takeJob (h : Fits n s) (k : JobKind) : Fits n (s.takeJob k) :=
  ((((h.setEngine _).sameQueue _).setCluster _).requestTemperature.engineTo _).tellPrinter

theorem requestReceipt (h : Fits n s) (k : JobKind) : Fits n (s.requestReceipt k) := (h.takeJob k).branch (h.setSale _)


/-! ## The sale and the journal's level (R19, R20, R172, R176) -/

theorem testCompletion (h : Fits n s) : Fits n s.testCompletion := h.perhaps fun h => ((h.notice _).setSale _).setBagging _

theorem saleVerdict (h : Fits n s) (q : Option Seq) : Fits n (s.saleVerdict q) :=
  h.perhaps fun h => (h.setSale _).composerVerdict.testCompletion

theorem takenVerdict (h : Fits n s) (r : Option Nat) (q : Option Seq) : Fits n (s.takenVerdict r q) := h.perhaps (·.saleVerdict _)

theorem printOutcome (h : Fits n s) (p : PrintStatus) : Fits n (s.printOutcome p) := h.perhaps fun h => (h.setSale _).testCompletion

theorem judgeJournal (h : Fits n s) : Fits n s.judgeJournal := by
  have judged := h.setJournal { s.journal with blocked := s.journal.targetBlocked, level := s.journal.judgedLevel s.sale }
  have told := judged.notice
  exact judged.branch (((told _).raise _).branch (((told _).withdraw _).branch (told _)))

theorem judgeBlocked (h : Fits n s) : Fits n s.judgeBlocked := h.branch h.judgeJournal

theorem enterFull (h : Fits n s) : Fits n s.enterFull := h.perhaps (·.judgeJournal)

theorem handOver (h : Fits n s) (a : Append) : Fits n (s.handOver a) :=
  (h.perhaps (·.saleVerdict _)).branch (h.setJournal _).enterFull

/-! ## The journal controller (R166 to R179) -/

theorem takeAppend (h : Fits n s) : Fits n s.takeAppend := by
  unfold State.takeAppend
  split
  · exact h
  · exact ((h.setJournal _).perhaps (·.setSale _)).judgeBlocked

theorem commitAppend (h : Fits n s) (a : TakenAppend) : Fits n (s.commitAppend a) := by
  have told := (h.setJournal (s.journal.commit a).arbitrate).perhaps (c := a.kind.isSale = true) (·.takenVerdict a.receipt (some a.seq))
  unfold State.commitAppend
  refine judgeJournal ?_
  split
  · exact told.notice _
  · exact told

theorem enterFault (h : Fits n s) (op : FailedOp) (block : Nat) (programming : Bool) : Fits n (s.enterFault op block programming) := by
  have stopped := h.setJournal (s.journal.stopForFault programming)
  unfold State.enterFault
  refine notice (perhaps (perhaps ?_ (·.saleVerdict _)) (·.withdraw _)) _
  split
  · exact stopped.perhaps (·.takenVerdict _ _)
  · exact stopped

theorem startEraseAhead (h : Fits n s) : Fits n s.startEraseAhead := by
  obtain ⟨a, ha⟩ := startEraseAhead_eq s
  exact ha ▸ h.setJournal _

theorem betweenOperations (h : Fits n s) : Fits n s.betweenOperations := by
  obtain ⟨a, ha⟩ := betweenOperations_eq s
  exact ha ▸ h.setJournal _

theorem appendProgrammed (h : Fits n s) : Fits n s.appendProgrammed := by
  unfold State.appendProgrammed
  split
  · exact h.setJournal _
  · split
    · exact h.commitAppend _
    · exact h.betweenOperations.setJournal _

theorem identityProgrammed (h : Fits n s) : Fits n s.identityProgrammed := by
  unfold State.identityProgrammed
  split
  · exact h.setJournal _
  · split
    · exact (h.setJournal _).notice _
    · exact (h.setJournal _).betweenOperations.setJournal _

/-- A program that failed verify has used up a free value (log entry 11). -/
theorem setProgrammed {c : Prop} [Decidable c] (h : Fits n s) (x : Journal) (hreader : x.reader = s.journal.reader := by rfl) :
    Fits n ((if c then s else s.useFresh).setJournal x) := by
  split
  · exact h.setJournal x hreader
  · exact (h.setFresh _).setJournal x hreader

theorem programEnds (h : Fits n s) (verified : Bool) : Fits n (s.programEnds verified) := by
  unfold State.programEnds
  split
  · refine branch ?_ ((h.setProgrammed _).enterFault _ _ _)
    split
    · exact (h.setProgrammed _).appendProgrammed
    · exact (h.setProgrammed _).identityProgrammed
    · exact (h.setProgrammed _).setJournal _
  · exact h

theorem eraseEnds (h : Fits n s) (verified : Bool) : Fits n (s.eraseEnds verified) := by
  unfold State.eraseEnds
  split
  · refine branch ?_ (((h.setFresh _).setJournal _ ?_).enterFault _ _ _)
    · split
      · exact (h.setJournal _).judgeJournal
      · exact (h.setJournal _).judgeJournal
    · split <;> rfl
  · exact h

/-- R182: the reply takes the place reserved for it. -/
theorem answerReader (h : Fits n s) (hreserved : s.link.reserved.isSome = true) (tag : Byte) (b : ReplyBody) :
    Fits n (s.answerReader tag b) where
  places := Nat.le_trans (Nat.le_of_eq (answerReader_places hreserved tag b)) h.places
  reserved := by simp [State.answerReader]
  notices := h.notices
  text := h.text

theorem readerAsks (h : Fits n s) (hreserved : s.link.reserved.isSome = true) (r : JournalReader) (a k : Nat) :
    Fits n (s.readerAsks r a k) := by
  have kept : s.betweenOperations.link.reserved.isSome = true := by rwa [betweenOperations_link]
  exact (h.betweenOperations.answerReader kept _ _).branch (h.betweenOperations.setJournal_of_reserved kept _)

theorem readerHeader (h : Fits n s) (hreserved : s.link.reserved.isSome = true) (r : JournalReader) : Fits n (s.readerHeader r) := by
  have answered := h.answerReader hreserved r.tag (.refused .noRecord)
  unfold State.readerHeader
  split
  · exact answered
  · exact answered.branch ((h.readerAsks hreserved _ _ _).branch (answered.branch (h.readerAsks hreserved _ _ _)))

theorem readerRead (h : Fits n s) (a k : Nat) : Fits n (s.readerRead a k) := by
  unfold State.readerRead
  split
  · exact h
  · next hreader =>
    have hreserved := h.reserved (by simp [hreader])
    refine branch (h.answerReader hreserved _ _) ?_
    split
    · exact h.readerHeader hreserved _
    · exact h.answerReader hreserved _ _

theorem readEnds (h : Fits n s) : Fits n s.readEnds := by
  unfold State.readEnds
  split
  · have freed := h.setJournal { s.journal with arbiter := { s.journal.arbiter with running := none } }
    refine setJournal ?_ _
    split
    · exact freed.readerRead _ _
    · exact freed.betweenOperations.copyRead _ _
    · exact freed.setJournal _
    · exact freed
  · exact h

theorem scanEnds (h : Fits n s) : Fits n s.scanEnds := (((h.setJournal _).notice _).setLink _).notice _

/-! ## The drawer controller and the station (R44 to R52, R124 to R134) -/

theorem putDrawer (h : Fits n s) (d : Drawer) (handed : Bool) : Fits n (s.putDrawer d handed) := (h.setDrawer d).perhaps (·.notice _)

theorem enterKicking (h : Fits n s) : Fits n s.enterKicking := h.putDrawer _ _

theorem tellDrawer (h : Fits n s) : Fits n s.tellDrawer := h.perhaps (·.enterKicking)

theorem tellGrants (h : Fits n s) : Fits n s.tellGrants := h.tellPrinter.tellDrawer

theorem enterClaiming (h : Fits n s) : Fits n s.enterClaiming := ((h.putDrawer _ _).setCluster _).tellDrawer

theorem requestKick (h : Fits n s) : Fits n s.requestKick := h.perhaps fun h => (h.setDrawer _).enterClaiming

theorem enterListen (h : Fits n s) : Fits n s.enterListen := ((h.updateCluster _).setMode _ _).stationNotice _

theorem leaveLoneWhenFree (h : Fits n s) : Fits n s.leaveLoneWhenFree := h.perhaps (·.enterListen)

theorem topupAfterRelease (h : Fits n s) : Fits n s.topupAfterRelease := h.perhaps (·.setCluster _)

theorem loneRelease (h : Fits n s) (k : Consumer) : Fits n (s.loneRelease k) :=
  h.branch (h.setCluster _).topupAfterRelease.tellGrants.leaveLoneWhenFree

theorem releaseHolding (h : Fits n s) (k : Consumer) : Fits n (s.releaseHolding k) :=
  ((h.setCluster _).loneRelease k).branch ((h.setCluster _).setCluster _)

theorem applyLone (h : Fits n s) (b : OutBody) : Fits n (s.applyLone b) := by
  cases b with
  | claim => exact (h.setCluster _).tellGrants
  | topup => exact (h.setCluster _).tellGrants
  | release k => exact h.loneRelease k
  | callRaise => exact h.setCluster _
  | callClear => exact h.setCluster _
  | expire => exact h
  | roll => exact h

theorem askForClipped (h : Fits n s) (zero : Bool) : Fits n (s.askForClipped zero) := h.perhaps (·.setCluster _)

theorem callNoticeIfMoved (h : Fits n s) (before : Cluster) : Fits n (s.callNoticeIfMoved before) := h.branch (h.notice _)

theorem enterLone (h : Fits n s) (cause : LoneCause) : Fits n (s.enterLone cause) := by
  refine stationNotice (callNoticeIfMoved (perhaps (tellGrants (askForClipped (setCluster ?_ _) _)) (·.setCluster _)) _) _
  exact ((((h.setCluster _).setCluster _).perhaps (·.holdingFell)).setCluster _).foldl (fun b hu => hu.applyLone b) _

theorem countOpening (h : Fits n s) : Fits n s.countOpening := (h.withdraw _).perhaps fun h => (h.setDrawer _).handOver _

theorem enterOpen (h : Fits n s) : Fits n s.enterOpen := h.countOpening.putDrawer _ _

theorem enterForced (h : Fits n s) : Fits n s.enterForced := ((h.raise _).requestTone _ _).putDrawer _ _

theorem enterJammed (h : Fits n s) (cause : JamCause) : Fits n (s.enterJammed cause) :=
  ((h.raise _).requestTone _ _).putDrawer _ _

theorem enterClosed (h : Fits n s) (handed : Bool) : Fits n (s.enterClosed handed) := (h.putDrawer _ _).testCompletion

theorem drawerDeparts (h : Fits n s) : Fits n s.drawerDeparts := by
  unfold State.drawerDeparts
  split
  · exact h.enterForced
  · exact ((h.setDrawer _).releaseHolding _).enterOpen
  · exact h.setDrawer _
  · exact h.enterOpen
  · exact h.enterOpen
  · exact h.enterOpen
  · exact h
  · exact h

theorem drawerReturns (h : Fits n s) : Fits n s.drawerReturns := by
  unfold State.drawerReturns
  split
  · exact (h.stopDrawerAlarm.withdraw _).enterClosed _
  · exact (h.stopDrawerAlarm.withdraw _).enterClosed _
  · exact h

theorem drawerFollows (h : Fits n s) (matching : Bool) : Fits n (s.drawerFollows matching) := by
  unfold State.drawerFollows
  split
  · exact h.setDrawer _
  · exact h.setDrawer _
  · exact h

theorem drawerWatch (h : Fits n s) (matching : Bool) : Fits n (s.drawerWatch matching) := by
  unfold State.drawerWatch
  split
  · exact h.drawerReturns.branch h.drawerDeparts
  · exact h.drawerFollows _

theorem claimExpires (h : Fits n s) : Fits n s.claimExpires := by
  unfold State.claimExpires
  split
  · exact ((h.setDrawer _).releaseHolding _).enterJammed _
  · exact h

theorem afterPulse (h : Fits n s) : Fits n s.afterPulse :=
  ((h.countOpening.enterClosed _).branch h.enterOpen).branch (h.putDrawer _ _)

theorem pulseEnds (h : Fits n s) : Fits n s.pulseEnds := by
  unfold State.pulseEnds
  split
  · exact ((h.setDrawer _).releaseHolding _).afterPulse
  · exact h

theorem confirmExpires (h : Fits n s) : Fits n s.confirmExpires := by
  unfold State.confirmExpires
  split
  · exact (h.putDrawer _ _).branch (h.enterJammed _)
  · exact h

theorem gapExpires (h : Fits n s) : Fits n s.gapExpires := by
  unfold State.gapExpires
  split
  · exact (h.setDrawer _).enterClaiming
  · exact h

theorem openAlarm (h : Fits n s) : Fits n s.openAlarm := h.perhaps fun h => (h.setDrawer _).requestTone _ _

theorem openLong (h : Fits n s) : Fits n s.openLong := h.perhaps fun h => (h.setDrawer _).raise _

theorem drawerLaneReset (h : Fits n s) : Fits n s.drawerLaneReset := ((h.setDrawer _).releaseHolding _).putDrawer _ _

/-! ## The bagging verifier and the capture unit (R85 to R103) -/

theorem baggingNotice (h : Fits n s) (r : BaggingResult) : Fits n (s.baggingNotice r) := h.notice _

theorem setLineBag (h : Fits n s) (i : Nat) (b : BagStatus) : Fits n (s.setLineBag i b) := h.setSale _

theorem postPlace (h : Fits n s) (i e x : Nat) : Fits n (s.postPlace i e x) := h.setBagging _

theorem postRemove (h : Fits n s) (i : Nat) : Fits n (s.postRemove i) := by
  unfold State.postRemove
  split
  · exact h.setBagging _
  · exact h

theorem withdrawTimeout (h : Fits n s) : Fits n s.withdrawTimeout := h.branch (h.withdraw _)

theorem baggingVoid (h : Fits n s) (i : Nat) (b : BagStatus) : Fits n (s.baggingVoid i b) := by
  unfold State.baggingVoid
  split
  · exact ((h.setBagging _).setLineBag _ _).withdrawTimeout
  · exact (h.postRemove i).setLineBag _ _
  · exact h

theorem clearExpectations (h : Fits n s) : Fits n s.clearExpectations := h.setBagging _

theorem settleAtBaseline (h : Fits n s) : Fits n s.settleAtBaseline := (((h.withdraw _).withdraw _).withdraw _).baggingNotice _

theorem settleFound (h : Fits n s) (k : Nat) (w : Int) : Fits n (s.settleFound k w) :=
  ((((h.setBagging _).foldl (fun _ hu => hu.setLineBag _ _) _).withdraw _).withdrawTimeout).baggingNotice _

theorem settleNotFound (h : Fits n s) (delta : Int) : Fits n (s.settleNotFound delta) :=
  ((h.raise _).baggingNotice _).branch (((h.raise _).baggingNotice _).branch ((h.raise _).baggingNotice _))

theorem settleEvent (h : Fits n s) (w : Int) : Fits n (s.settleEvent w) := by
  refine branch ?_ (h.setBagging _)
  split
  · exact h
  · refine branch h.settleAtBaseline ?_
    split
    · exact h.settleFound _ _
    · exact h.settleNotFound _

theorem baselineEvent (h : Fits n s) (w : Int) : Fits n (s.baselineEvent w) := h.setBagging _

theorem deadlinePasses (h : Fits n s) (i : Nat) : Fits n (s.deadlinePasses i) :=
  h.perhaps fun h => ((h.setBagging _).raise _).baggingNotice _

theorem baggingCleared (h : Fits n s) (w : Int) : Fits n (s.baggingCleared w) :=
  ((h.setBagging _).foldl (fun _ hu => hu.setLineBag _ _) _).baggingNotice _

theorem endCapture (h : Fits n s) (o : CaptureOutcome) : Fits n (s.endCapture o) := by
  unfold State.endCapture
  split
  · exact h
  · exact ((h.setCapture _).setSale _).notice _

theorem captured (h : Fits n s) (c : CaptureRec) (grams : Nat) : Fits n (s.captured c grams) :=
  (((h.setSale _).perhaps (·.postPlace _ _ _)).setCapture _).notice _

theorem captureWeight (h : Fits n s) (st : ChannelState) (stable : Bool) (gross net : Int) :
    Fits n (s.captureWeight st stable gross net) := by
  unfold State.captureWeight
  dsimp only
  split
  · exact h.setCapture _
  · split
    · exact h.perhaps (·.setCapture _)
    · exact (h.setCapture _).perhaps (·.captured _ _)

/-! ## The scale front end (R68 to R84) -/

theorem weightNotice (h : Fits n s) : Fits n s.weightNotice := (h.setScale _).notice _

theorem produceFormed (h : Fits n s) : Fits n s.produceFormed := (h.perhaps (·.weightNotice)).captureWeight _ _ _ _

theorem baggingFormed (h : Fits n s) (before : Channel) : Fits n (s.baggingFormed before) := by
  have told := h.otherwise (c := s.scale.bagging.state = before.state) (·.weightNotice)
  exact (((told.setScale _).baselineEvent _).branch (told.branch (told.settleEvent _))).branch told

theorem produceSample (h : Fits n s) (twice : Int) : Fits n (s.produceSample twice) := by
  unfold State.produceSample
  dsimp only
  split
  · exact h.setScale _
  · exact (h.setScale _).produceFormed

theorem baggingSample (h : Fits n s) (twice : Int) : Fits n (s.baggingSample twice) := by
  unfold State.baggingSample
  dsimp only
  split
  · exact h.setScale _
  · exact (h.setScale _).baggingFormed _

theorem produceReading (h : Fits n s) (r : Int) : Fits n (s.produceReading r) := by
  refine branch (h.setScale _) ?_
  split
  · exact h.produceSample _
  · exact h

theorem baggingReading (h : Fits n s) (r : Int) : Fits n (s.baggingReading r) := by
  refine branch (h.setScale _) ?_
  split
  · exact h.baggingSample _
  · exact h

theorem conversionEnds (h : Fits n s) (z : Int) : Fits n (s.conversionEnds z) := by
  unfold State.conversionEnds
  dsimp only
  split
  · exact h
  · have freed := h.setScale
    split
    · exact (freed _).temperatureResult _
    · exact (freed _).otherwise (·.produceReading _)
    · exact (freed _).otherwise (·.baggingReading _)

theorem weightNoticeIfChanged (h : Fits n s) (before : Scale) : Fits n (s.weightNoticeIfChanged before) := h.otherwise (·.weightNotice)

theorem restartTakesEffect (h : Fits n s) : Fits n s.restartTakesEffect := ((h.setScale _).withdraw _).weightNoticeIfChanged _

theorem periodBoundary (h : Fits n s) : Fits n s.periodBoundary := by
  unfold State.periodBoundary
  split
  · exact h
  · exact h.restartTakesEffect.branch ((h.setScale _).branch (h.setScale _))

theorem forcedCutoff (h : Fits n s) : Fits n s.forcedCutoff := (((h.setScale _).raise _).weightNoticeIfChanged _).endCapture _

theorem bridgeChanges (h : Fits n s) (l : BridgeLevel) : Fits n (s.bridgeChanges l) := by
  cases l with
  | fault => exact (h.setScale _).perhaps (·.forcedCutoff)
  | normal => exact h.setScale _

theorem startScale (h : Fits n s) (v : ConfigValues) : Fits n (s.startScale v) := by
  have started := fun x => (h.setScale x).weightNotice
  unfold State.startScale
  dsimp only
  split
  · exact (started _).forcedCutoff
  · exact started _

theorem weightNoticeIfNet (h : Fits n s) (before : Option Int) : Fits n (s.weightNoticeIfNet before) := h.otherwise (·.weightNotice)

theorem clearTareNow (h : Fits n s) : Fits n s.clearTareNow := (h.setScale _).weightNoticeIfNet _


/-! ## The ends of print jobs and the media (R144 to R154) -/

/-- R165: an ended composer's queue is empty. -/
theorem composerEnded (h : Fits n s) : Fits n (s.setComposer s.composer.ended) := h.setComposer _ (Nat.zero_le 8)

theorem reportOutcome (h : Fits n s) (o : JobOutcome) (p : PrintStatus) : Fits n (s.reportOutcome o p) := by
  unfold State.reportOutcome
  split
  · refine composerEnded ?_
    split
    · exact h.notice _
    · exact h
  · exact h.composerEnded.printOutcome _
  · exact h

theorem engineIdle (h : Fits n s) (o : JobOutcome) : Fits n (s.engineIdle o) := h.putEngine _ _

theorem handWaitingJob (h : Fits n s) : Fits n s.handWaitingJob := by
  unfold State.handWaitingJob
  split
  · exact (h.setSale _).takeJob _
  · exact h

theorem endJob (h : Fits n s) (o : JobOutcome) (p : PrintStatus) : Fits n (s.endJob o p) :=
  (((h.releaseHolding _).reportOutcome _ _).engineIdle _).handWaitingJob

theorem abandonJob (h : Fits n s) : Fits n s.abandonJob := h.branch (((h.setEngine _).releaseHolding _).composerEnded.engineIdle _)

theorem passEnds (h : Fits n s) : Fits n s.passEnds := by
  unfold State.passEnds
  split
  · exact h
  · split
    · exact h
    · split
      · exact h.setEngine _
      · exact h.setEngine _

theorem stepEnds (h : Fits n s) : Fits n s.stepEnds := by
  unfold State.stepEnds
  dsimp only
  split
  · exact h
  · have stepped := h.setEngine { s.engine with motorPhase := s.engine.motorPhase + 1, step := none }
    split
    · exact stepped.perhaps (·.setEngine _)
    · exact stepped.perhaps (·.rowBoundary _)
    · exact stepped.perhaps (·.setEngine _)
    · exact stepped

theorem mediaPauses (h : Fits n s) : Fits n s.mediaPauses := by
  unfold State.mediaPauses
  split
  · exact h.setEngine _
  · exact h.pauseMedia
  · exact h.setEngine _
  · exact h.pauseMedia
  · exact h.setEngine _
  · exact h.setEngine _
  · exact h.pauseMedia
  · exact h

theorem raisePaperOut (h : Fits n s) : Fits n s.raisePaperOut := (h.setEngine _).raise _

theorem mediaWatch (h : Fits n s) (matching : Bool) : Fits n (s.mediaWatch matching) :=
  (h.setEngine _).branch (h.setEngine _).raisePaperOut.mediaPauses

theorem mediaSettles (h : Fits n s) : Fits n s.mediaSettles := by
  unfold State.mediaSettles
  split
  · exact h
  · exact ((h.setEngine _).withdraw _).perhaps (·.rowStart)

theorem nearEndWatch (h : Fits n s) (matching : Bool) : Fits n (s.nearEndWatch matching) := h.notice _

theorem cutterReturns (h : Fits n s) : Fits n s.cutterReturns := (h.perhaps (·.endJob _ _)).withdraw _

theorem cutterWatch (h : Fits n s) (matching : Bool) : Fits n (s.cutterWatch matching) := h.perhaps (·.cutterReturns)

theorem cutExpires (h : Fits n s) : Fits n s.cutExpires := by
  unfold State.cutExpires
  split
  · exact (h.raise _).endJob _ _
  · exact h

theorem startEngine (h : Fits n s) (headMax : Nat) : Fits n (s.startEngine headMax) :=
  ((h.setEngine _).otherwise (·.raisePaperOut)).otherwise (·.notice _)

/-! ## The authority timer, the card decoder and the sense unit (R104 to R123) -/

theorem putAuthority (h : Fits n s) (a : Authority) : Fits n (s.putAuthority a) := (h.setAuthority a).otherwise (·.notice _)

theorem emptyWanted (h : Fits n s) : Fits n s.emptyWanted := (h.setEngine _).updateCluster _

theorem clearSucceeds (h : Fits n s) (source : AuthSource) (digits : Text) (clear : Option Int) :
    Fits n (s.clearSucceeds source digits clear) := by
  unfold State.clearSucceeds
  refine handOver ?_ _
  split
  · exact h.emptyWanted.baggingCleared _
  · exact h.emptyWanted

theorem clearAttempt (h : Fits n s) (source : AuthSource) (digits : Text) : Fits n (s.clearAttempt source digits).1 := by
  unfold State.clearAttempt
  split
  · exact h
  · split
    · split
      · exact h.baggingNotice _
      · next w _ =>
        split
        · exact h.clearSucceeds source digits (some w)
        · exact h
    · split
      · exact h.clearSucceeds source digits none
      · exact h

theorem attendantClear (h : Fits n s) (source : AuthSource) (digits : Text) : Fits n (s.attendantClear source digits) :=
  ((h.clearAttempt source digits).notice _).requestTone _ _

theorem attendantCard (h : Fits n s) (digits : Text) : Fits n (s.attendantCard digits) := (h.putAuthority _).attendantClear _ _

theorem keyDeparts (h : Fits n s) : Fits n s.keyDeparts := by
  unfold State.keyDeparts
  split
  · exact (h.putAuthority _).attendantClear _ _
  · exact h

theorem keyWatch (h : Fits n s) (matching : Bool) : Fits n (s.keyWatch matching) := (h.putAuthority _).branch h.keyDeparts

theorem windowExpires (h : Fits n s) : Fits n s.windowExpires := h.putAuthority _

theorem authorityLaneReset (h : Fits n s) : Fits n s.authorityLaneReset := h.putAuthority _

theorem settleKey (h : Fits n s) : Fits n s.settleKey := h.putAuthority _

theorem handleRecord (h : Fits n s) (r : CardRecord) : Fits n (s.handleRecord r) := by
  unfold State.handleRecord
  split
  · exact h.attendantCard _
  · exact ((h.setCard _).notice _).requestTone _ _
  · exact (h.notice _).requestTone _ _
  · exact ((h.setCard _).notice _).requestTone _ _

theorem decodingEnds (h : Fits n s) : Fits n s.decodingEnds := by
  unfold State.decodingEnds
  split
  · exact (h.setCard _).handleRecord _
  · exact h

theorem wipeHeld (h : Fits n s) : Fits n s.wipeHeld := h.setCard _

theorem deliver (h : Fits n s) (before after : Watch) {owner : State → Bool → State}
    (howner : ∀ matching, Fits n s → Fits n (owner s matching)) : Fits n (s.deliver before after owner) :=
  h.otherwise (howner _)

theorem spareNotice (h : Fits n s) (i : SenseInput) : Fits n (s.spareNotice i) := h.notice _

theorem senseEvents (h : Fits n s) (i : SenseInput) (before : Sense) : Fits n (s.senseEvents i before) := by
  cases i with
  | drawer => exact h.deliver _ _ fun _ h => h.drawerWatch _
  | paper => exact h.perhaps fun h => h.deliver _ _ fun _ h => h.mediaWatch _
  | cover => exact h.perhaps fun h => h.deliver _ _ fun _ h => h.mediaWatch _
  | nearEnd => exact h.perhaps fun h => h.deliver _ _ fun _ h => h.nearEndWatch _
  | cutterHome => exact h.perhaps fun h => h.deliver _ _ fun _ h => h.cutterWatch _
  | key => exact h.perhaps fun h => h.deliver _ _ fun _ h => h.keyWatch _
  | spare1 => exact h.perhaps (·.spareNotice _)
  | spare2 => exact h.perhaps (·.spareNotice _)

theorem debounced (h : Fits n s) (i : SenseInput) : Fits n (s.debounced i) := by
  unfold State.debounced
  dsimp only
  split
  · exact h
  · exact h.branch ((h.setSense _).senseEvents _ _)

/-! ## Frames on the cluster bus (R25 to R63) -/

theorem countVerdicts (h : Fits n s) (v : Verdicts) : Fits n (s.countVerdicts v) := by
  unfold State.countVerdicts
  dsimp only
  split
  · exact ((h.setMode _ _).branch (h.setCluster _)).branch (h.setCluster _)
  · exact ((h.setMode _ _).branch (h.setCluster _)).branch (h.setCluster _)

theorem takeFrame (h : Fits n s) (f : Frame) (ours : Bool) : Fits n (s.takeFrame f ours) :=
  ((((((h.setCluster _).noticeAll _).perhaps (·.topupAfterRelease)).setCluster _).callNoticeIfMoved _).otherwise
    (·.stationNotice _)).tellGrants

theorem ownVetoed (h : Fits n s) (f : Frame) : Fits n (s.ownVetoed f) := by
  have left := fun c => (h.setCluster c).tellGrants
  unfold State.ownVetoed
  dsimp only
  split
  · exact (left _).perhaps (·.enterLone _)
  · exact left _

theorem ownFailed (h : Fits n s) (x : FailedSend) : Fits n (s.ownFailed x) := by
  have told := (h.setCluster { s.cluster.leaveBus with failures := x :: s.cluster.failures }).tellGrants
  refine told.branch ?_
  split
  · exact told.enterLone _
  · exact told.setMode _ _
  · exact told.enterLone _

theorem lostArbitration (h : Fits n s) : Fits n s.lostArbitration := (h.setCluster _).tellGrants

theorem ownAborted (h : Fits n s) (v : Verdicts) : Fits n (s.ownAborted v) := h.ownFailed _

theorem ownOutcome (h : Fits n s) (f : Frame) (v : Verdicts) (others : ResponseSlots) : Fits n (s.ownOutcome f v others) := by
  unfold State.ownOutcome
  split
  · exact h.takeFrame _ _
  · exact h.ownVetoed _
  · exact h.ownFailed _

theorem ownFrameEnds (h : Fits n s) (f : Frame) (r : Reading × Reading × Reading) (others : ResponseSlots) :
    Fits n (s.ownFrameEnds f r others) := by
  unfold State.ownFrameEnds
  dsimp only
  split
  · exact (h.countVerdicts _).ownOutcome _ _ _
  · exact h.lostArbitration.branch (h.ownAborted _)

theorem peerOutcome (h : Fits n s) (copy : Option Frame) (others : ResponseSlots) : Fits n (s.peerOutcome copy others) := by
  unfold State.peerOutcome
  split
  · exact h.takeFrame _ _
  · exact h.lostArbitration

theorem peerFrameEnds (h : Fits n s) (f : Frame) (r : Reading × Reading × Reading) (others : ResponseSlots) :
    Fits n (s.peerFrameEnds f r others) :=
  h.lostArbitration.branch ((h.countVerdicts _).peerOutcome _ _)

theorem frameEnds (h : Fits n s) (f : Frame) (heard : Heard) (others : ResponseSlots) : Fits n (s.frameEnds f heard others) := by
  refine branch ?_ h
  split
  · exact h
  · exact (h.ownFrameEnds _ _ _).branch (h.peerFrameEnds _ _ _)

theorem frameAborts (h : Fits n s) (ours : Bool) (v : Verdicts) : Fits n (s.frameAborts ours v) :=
  ((h.ownAborted _).branch h.lostArbitration).branch h

theorem enterJoining (h : Fits n s) : Fits n s.enterJoining := (h.setCluster _).stationNotice _

theorem listenExpires (h : Fits n s) : Fits n s.listenExpires := by
  unfold State.listenExpires
  split
  · exact (h.enterLone _).branch ((h.enterLone _).branch ((h.setCluster _).branch h.enterJoining))
  · exact h

theorem retryExpires (h : Fits n s) : Fits n s.retryExpires := by
  unfold State.retryExpires
  split
  · exact (h.setCluster _).leaveLoneWhenFree
  · exact h

theorem startCluster (h : Fits n s) (budget : Nat) : Fits n (s.startCluster budget) := (h.setCluster _).enterListen

/-! ## The ends of a sale (R14 to R20), configuration and LANE RESET (R185, R187) -/

theorem kickForCash (h : Fits n s) : Fits n s.kickForCash := h.perhaps fun h => (h.setSale _).requestKick

theorem settle (h : Fits n s) : Fits n s.settle := (((h.setSale _).handOver _).requestReceipt _).kickForCash.testCompletion

theorem addTender (h : Fits n s) (x : Tender) : Fits n (s.addTender x) := (h.setSale _).perhaps (·.settle)

theorem voidSaleNow (h : Fits n s) : Fits n s.voidSaleNow := by
  have dropped := ((h.setSale { s.sale with state := .voided }).endCapture .voided).clearExpectations
  exact (((((dropped.perhaps (·.wipeHeld)).setSale _).handOver _).requestReceipt _).kickForCash).testCompletion

theorem queueMark (h : Fits n s) (q : Seq) : Fits n (s.queueMark q) := (h.setJournal _).branch (h.handOver _)

theorem configureNow (h : Fits n s) (v : ConfigValues) : Fits n (s.configureNow v) := by
  have running := (h.setLink { s.link with part := .running }).notice (.part .running none)
  exact ((((((running.startCluster _).startScale v).setDrawer _).startEngine _).settleKey).setCard _).sameQueue _

theorem discardSale (h : Fits n s) : Fits n s.discardSale :=
  (((h.endCapture _).clearExpectations.setJournal _).setSale _).setBagging _

theorem scaleLaneReset (h : Fits n s) : Fits n s.scaleLaneReset := (h.setScale _).clearTareNow

theorem laneResetNow (h : Fits n s) : Fits n s.laneResetNow :=
  (h.discardSale.scaleLaneReset.setCard _).authorityLaneReset.drawerLaneReset.abandonJob.setTone _

end Fits

/-! ## The host's commands (R182) -/

/-- What a command's rule leaves fits without the place of its own reply; a READ JOURNAL taken has reserved that place, and forms no reply yet. -/
def Answers (n : Nat) (x : Taken) : Prop := if x.2.isSome then Fits n x.1 else Fits (n + 1) x.1

namespace Fits
variable {n : Nat} {s : State}

theorem done (h : Fits n s) (f : ReplyFields) : Answers n (s.done f) := h

theorem accepted (h : Fits n s) (f : ReplyFields) : Answers n (s.accepted f) := h

theorem refuse (h : Fits n s) (r : RefusalReason) : Answers n (s.refuse r) := h

/-- A check that a command fails refuses it. -/
theorem check {c : Prop} [Decidable c] {r : RefusalReason} {x : Taken} (h : Fits n s) (hx : Answers n x) :
    Answers n (if c then s.refuse r else x) := by
  split
  · exact h.refuse r
  · exact hx

theorem whenRunning (h : Fits n s) {f : State → Taken} (hf : Answers n (f s)) : Answers n (s.whenRunning f) := by
  unfold State.whenRunning
  split
  · exact hf
  · exact h.refuse _

theorem concludeCommand {x : Taken} (h : Answers n x) (kind tag : Byte) : Fits (n + 1) (concludeCommand kind tag x) := by
  unfold Machine.concludeCommand
  unfold Answers at h
  split
  · next hb =>
    rw [hb] at h
    exact h.reply kind tag _
  · next hb =>
    rw [hb] at h
    exact h

/-! ### The sale's commands (R10 to R20) -/

theorem openSale (h : Fits n s) (r x : BitVec 32) : Answers n (s.openSale r x) := by
  refine h.check ?_
  split
  · exact h.check (h.check (h.check ((h.setSale _).done _)))
  · exact h.refuse _

theorem appendItem (h : Fits n s) (f : LineFields) : Answers n (s.appendItem f) := by
  unfold State.appendItem
  dsimp only
  split
  · exact ((h.setSale _).postPlace _ _ _).done _
  · exact (h.setSale _).done _

theorem addLine (h : Fits n s) (f : LineFields) : Answers n (s.addLine f) :=
  h.check (h.check (h.check (h.check (h.check (h.check (h.check (h.appendItem f)))))))

theorem voidLineNow (h : Fits n s) (i : Nat) (l : Line) : Answers n (s.voidLineNow i l) := ((h.setSale _).baggingVoid _ _).done _

theorem voidLine (h : Fits n s) (i : Nat) : Answers n (s.voidLine i) := by
  refine h.check (h.check ?_)
  split
  · exact h.refuse _
  · exact h.check (h.check (h.voidLineNow _ _))

theorem total (h : Fits n s) : Answers n s.total :=
  h.check (h.check (h.check (h.check ((((h.endCapture _).setSale _).branch (h.endCapture _).settle).done _))))

theorem tenderCash (h : Fits n s) (amount : Nat) : Answers n (s.tenderCash amount) :=
  h.check (h.check (h.check ((h.addTender _).done _)))

theorem tenderCard (h : Fits n s) (amount : Nat) (approval : Text) : Answers n (s.tenderCard amount approval) := by
  refine h.check (h.check ?_)
  split
  · exact h.refuse _
  · split
    · exact h.refuse _
    · exact h.check ((h.wipeHeld.addTender _).done _)

theorem voidSale (h : Fits n s) : Answers n s.voidSale := h.check (h.check (h.check (h.voidSaleNow.done _)))

/-! ### Weighing (R12, R70, R80 to R82, R90) -/

theorem startCapture (h : Fits n s) (desc : Text) (price : Nat) (bag : Bool) : Answers n (s.startCapture desc price bag) :=
  (((h.setCapture _).setSale _).perhaps (·.endCapture _)).accepted _

theorem weighItem (h : Fits n s) (desc : Text) (price bag : Nat) : Answers n (s.weighItem desc price bag) :=
  h.check (h.check (h.check (h.check (h.check (h.check (h.startCapture _ _ _))))))

theorem cancelWeigh (h : Fits n s) : Answers n s.cancelWeigh := h.check ((h.endCapture _).done _)

theorem restartScale (h : Fits n s) : Answers n s.restartScale := h.check ((h.setScale _).done _)

theorem setZero (h : Fits n s) : Answers n s.setZero := by
  refine h.check (h.check (h.check ?_))
  split
  · exact h.refuse _
  · split
    · exact (h.setScale _).done _
    · exact h.refuse _

theorem takeTare (h : Fits n s) (d : Nat) : Answers n (s.takeTare d) := (h.setScale _).done _

theorem setTare (h : Fits n s) (preset : Option Nat) : Answers n (s.setTare preset) := by
  refine h.check ?_
  split
  · exact h.check (h.check (h.takeTare _))
  · exact h.check (h.check (h.check (h.takeTare _)))

theorem clearTare (h : Fits n s) : Answers n s.clearTare := h.check (h.clearTareNow.done _)

/-! ### Card, assistance, drawer and tones (R66, R116, R131 to R136) -/

theorem discardCard (h : Fits n s) : Answers n s.discardCard := by
  unfold State.discardCard
  split
  · exact h.refuse _
  · exact h.wipeHeld.done _

theorem raiseAssist (h : Fits n s) : Answers n s.raiseAssist := (h.raise _).done _

theorem withdrawAssist (h : Fits n s) : Answers n s.withdrawAssist := (h.withdraw _).done _

theorem noSale (h : Fits n s) : Answers n s.noSale :=
  h.check (h.check (h.check (h.check (h.check (h.check ((h.setDrawer _).requestKick.accepted _))))))

theorem retryDrawer (h : Fits n s) : Answers n s.retryDrawer := by
  refine h.check ?_
  split
  · exact h.requestKick.accepted _
  · exact h.refuse _
  · exact h.refuse _

theorem playTone (h : Fits n s) (tone : Nat) : Answers n (s.playTone tone) := by
  unfold State.playTone
  split
  · exact h.refuse _
  · exact (h.requestTone _ _).done _

theorem stopTone (h : Fits n s) : Answers n s.stopTone := (h.setTone _).done _

/-! ### Reprint, journal, configuration, status and LANE RESET (R163, R168, R177, R178, R185 to R187) -/

theorem reprintLast (h : Fits n s) : Answers n s.reprintLast := by
  refine h.check (h.check (h.check ?_))
  split
  · exact h.refuse _
  · exact ((h.sameQueue _).takeJob _).accepted _

theorem writeIdentity (h : Fits n s) (store : Nat) (label : Text) : Answers n (s.writeIdentity store label) := by
  refine h.check (h.check ?_)
  split
  · exact h.refuse _
  · exact h.check (h.check ((h.setJournal _).accepted _))

/-- R182: a READ JOURNAL taken has no place reserved yet, and reserves one. -/
theorem reserve (h : Fits n s) (hfree : s.link.reserved.isSome ≠ true) (j : Journal) (tag : Byte) :
    Fits (n + 1) ((s.setJournal j).setLink { s.link with reserved := some tag }) where
  places := by
    have := h.places
    simp only [Link.places, if_neg hfree] at this
    simpa [Link.places] using this
  reserved _ := rfl
  notices := h.notices
  text := h.text

theorem readJournal (h : Fits n s) (tag : Byte) (q : Seq) (offset : Nat) : Answers n (s.readJournal tag q offset) := by
  unfold State.readJournal
  split
  · exact h.refuse _
  · next hfree =>
    split
    · exact h.refuse _
    · split
      · exact h.refuse _
      · exact h.check (h.reserve hfree _ tag)

theorem confirmExport (h : Fits n s) (q : Seq) : Answers n (s.confirmExport q) := h.check (h.check ((h.queueMark q).accepted _))

theorem configure (h : Fits n s) (v : ConfigValues) : Answers n (s.configure v) := by
  unfold State.configure
  split
  · exact h.refuse _
  · exact h.refuse _
  · split
    · exact (h.configureNow v).done _
    · exact h.refuse _

theorem readStatus (h : Fits n s) : Answers n s.readStatus := (h.setLink _).done _

theorem laneReset (h : Fits n s) : Answers n s.laneReset := h.laneResetNow.done _

theorem perform (h : Fits n s) (tag : Byte) (c : HostCommand) : Answers n (s.perform tag c) := by
  cases c with
  | openSale r x => exact h.whenRunning (h.openSale r x)
  | addLine f => exact h.whenRunning (h.addLine f)
  | voidLine i => exact h.whenRunning (h.voidLine i)
  | total => exact h.whenRunning h.total
  | tenderCash a => exact h.whenRunning (h.tenderCash a)
  | tenderCard a x => exact h.whenRunning (h.tenderCard a x)
  | voidSale => exact h.whenRunning h.voidSale
  | weighItem d p b => exact h.whenRunning (h.weighItem d p b)
  | cancelWeigh => exact h.whenRunning h.cancelWeigh
  | restartScale => exact h.whenRunning h.restartScale
  | setZero => exact h.whenRunning h.setZero
  | setTare g => exact h.whenRunning (h.setTare g)
  | clearTare => exact h.whenRunning h.clearTare
  | discardCard => exact h.whenRunning h.discardCard
  | raiseAssist => exact h.whenRunning h.raiseAssist
  | withdrawAssist => exact h.whenRunning h.withdrawAssist
  | noSale => exact h.whenRunning h.noSale
  | retryDrawer => exact h.whenRunning h.retryDrawer
  | playTone x => exact h.whenRunning (h.playTone x)
  | stopTone => exact h.whenRunning h.stopTone
  | reprintLast => exact h.whenRunning h.reprintLast
  | writeIdentity x l => exact h.writeIdentity x l
  | readJournal q o => exact h.whenRunning (h.readJournal tag q o)
  | confirmExport q => exact h.whenRunning (h.confirmExport q)
  | configure v => exact h.configure v
  | readStatus => exact h.readStatus
  | laneReset => exact h.whenRunning h.laneReset

/-! ## The lane link (R180 to R184) -/

theorem takeCommand (h : Fits n s) (tag : Byte) (c : HostCommand) : Fits (n + 1) (s.takeCommand tag c) :=
  concludeCommand (h.perform tag c) _ _

theorem takeBody (h : Fits n s) (body : List Byte) : Fits (n + 1) (s.takeBody body) := by
  unfold State.takeBody
  split
  · exact h.takeCommand _ _
  · exact h.reply _ _ _

theorem setAssembler (h : Fits n s) (a : Assembler) : Fits n (s.setAssembler a) := h.setLink _

theorem discardMessage (h : Fits n s) (e : LinkErrors) (chars : Nat) : Fits n (s.discardMessage e chars) :=
  (h.setAssembler _).linkError _ _

theorem arrive (h : Fits replyPlaces s) (tag : Byte) (c : HostCommand) : Fits replyPlaces (s.arrive tag c) := by
  unfold State.arrive
  split
  · exact h.setLink _
  · split
    · next hfree => exact (h.of_places_lt hfree).takeCommand tag c
    · exact h.setLink _

theorem acceptMessage (h : Fits replyPlaces s) (body : List Byte) : Fits replyPlaces (s.acceptMessage body) := by
  unfold State.acceptMessage
  split
  · next hfree => exact ((h.of_places_lt hfree).setAssembler _).takeBody body
  · exact h.setAssembler _

theorem completeMessage (h : Fits replyPlaces s) (c : LinkChar) : Fits replyPlaces (s.completeMessage c) :=
  (h.discardMessage _ _).branch ((h.discardMessage _ _).branch (h.acceptMessage _))

theorem characterArrives (h : Fits replyPlaces s) (c : LinkChar) : Fits replyPlaces (s.characterArrives c) := by
  unfold State.characterArrives
  split
  · exact h.setAssembler _
  · split
    · exact h.perhaps (·.setAssembler _)
    · exact (h.discardMessage _ _).branch (h.setAssembler _)
    · exact h.setAssembler _
    · exact h.completeMessage c

theorem messageCompletes (h : Fits replyPlaces s) (c : LinkChar) : Fits replyPlaces (s.messageCompletes c) := by
  unfold State.messageCompletes
  split
  · exact h.completeMessage c
  · exact h

theorem gapExpiresInMessage (h : Fits n s) : Fits n s.gapExpiresInMessage := by
  unfold State.gapExpiresInMessage
  dsimp only
  split
  · exact h
  · exact h.discardMessage _ _

theorem handOverHeld (h : Fits replyPlaces s) : Fits replyPlaces s.handOverHeld := by
  unfold State.handOverHeld
  dsimp only
  split
  · exact h
  · split
    · next hfree => exact (((h.of_places_lt hfree).setAssembler _).perhaps (·.linkError _ _)).takeBody _
    · exact h

/-- R182: the place of a reply sent is freed. -/
theorem sent (h : Fits n s) : Fits n (s.setLink s.link.sent) := by
  unfold Link.sent
  split
  · exact h.setLink _
  · refine ⟨Nat.le_trans ?_ h.places, h.reserved, h.notices, h.text⟩
    refine Nat.add_le_add_right ?_ _
    dsimp only [setLink_link]
    split
    · simp
    · exact Nat.le_refl _

theorem hardwareReset (pins : Pins) (array : List Host.Cell) (fresh : Nat) (pending : List Instr) :
    Fits n (State.hardwareReset pins array fresh pending) :=
  ⟨Nat.zero_le n, by simp [State.hardwareReset, Journal.reset], ⟨Nat.zero_le 32, List.Pairwise.nil⟩, Nat.zero_le 8⟩

/-! ## The rows and the step (log entry 1) -/

theorem hotPolls (h : Fits n s) : Fits n s.hotPolls := by
  unfold State.hotPolls
  split
  · exact h.requestTemperature
  · exact h

theorem placesLine (h : Fits n s) : Fits n s.placesLine := h.composeLine.perhaps (·.lineQueued)

theorem trackMoves (h : Fits n s) (k : Track) (interval : Nat) : Fits n (s.trackMoves k interval) := by
  unfold State.trackMoves
  split
  · exact h.setCard _
  · exact h

theorem takesAppend (h : Fits n s) : Fits n s.takesAppend := by
  unfold State.takesAppend
  split
  · exact h.takeAppend
  · exact h

theorem scanFinishes (h : Fits n s) : Fits n s.scanFinishes := by
  unfold State.scanFinishes
  split
  · exact h.scanEnds
  · exact h

theorem windowRunsOut (h : Fits n s) : Fits n s.windowRunsOut := by
  unfold State.windowRunsOut
  split
  · exact h.windowExpires
  · exact h

theorem tick (h : Fits n s) : Fits n s.tick := h.congr rfl rfl rfl (tick_reader s.journal) rfl

end Fits

/-- An outcome whose next state, if it has one, fits. -/
def NextFits (r : Result) : Prop := ∀ t, r = .next t → Fits replyPlaces t

theorem nextFits_answer {s : State} (h : Fits replyPlaces s) : NextFits (answer s) := fun _ ht => by
  cases ht
  exact h.finish

theorem nextFits_exec {s : State} (h : Fits replyPlaces s) (i : Instr) : NextFits (exec i s) := by
  cases i with
  | powerOnReset | pinReset => exact nextFits_answer (.hardwareReset _ _ _ _)
  | messageReceived => exact nextFits_answer (h.messageCompletes _)
  | linkGapTimer => exact nextFits_answer h.gapExpiresInMessage
  | messageHandover => exact nextFits_answer h.handOverHeld
  | messageSent => exact nextFits_answer h.sent
  | characterReceived => exact nextFits_answer (h.characterArrives _)
  | openSale | addLine | voidLine | total | tenderCash | tenderCard | voidSale | weighItem | cancelWeigh | restartScale | setZero
  | setTare | clearTare | discardCard | raiseAssist | withdrawAssist | noSale | retryDrawer | playTone | stopTone | reprintLast
  | writeIdentity | readJournal | confirmExport | configure | readStatus | laneReset => exact nextFits_answer (h.arrive _ _)
  | busFree | rollTimer | silenceTimer => exact nextFits_answer (h.setCluster _)
  | expire | callRaise | callClear | shareClaim | shareTopup | shareRelease | roll | frameVetoed | frameVoid =>
    exact nextFits_answer (h.frameEnds _ _ _)
  | frameAborted => exact nextFits_answer (h.frameAborts _ _)
  | listenTimer => exact nextFits_answer h.listenExpires
  | retryTimer => exact nextFits_answer h.retryExpires
  | periodBoundary => exact nextFits_answer h.periodBoundary
  | negativeHalfStart | deadTimeEnd | settlePoint => exact nextFits_answer (h.setScale _)
  | forcedCutoff | bridgeFaultToNormal => exact nextFits_answer (h.bridgeChanges _)
  | conversionEnd => exact nextFits_answer (h.conversionEnds _)
  | captureTimer => exact nextFits_answer (h.endCapture _)
  | deadline => exact nextFits_answer (h.deadlinePasses _)
  | trackTransition => exact nextFits_answer (h.trackMoves _ _)
  | swipeEnd => exact nextFits_answer (h.setCard _)
  | decodingEnd => exact nextFits_answer h.decodingEnds
  | windowTimer => exact nextFits_answer h.windowRunsOut
  | rawLevelChange => exact nextFits_answer (h.setSense _)
  | debouncedChange => exact nextFits_answer (h.debounced _)
  | claimTimer => exact nextFits_answer h.claimExpires
  | pulseTimer => exact nextFits_answer h.pulseEnds
  | confirmTimer => exact nextFits_answer h.confirmExpires
  | retryGapTimer => exact nextFits_answer h.gapExpires
  | openTimerAlarm => exact nextFits_answer h.openAlarm
  | openTimerLong => exact nextFits_answer h.openLong
  | toneEnd | toneStep => exact nextFits_answer (h.setTone _)
  | passEnd => exact nextFits_answer h.passEnds
  | stepEnd => exact nextFits_answer h.stepEnds
  | hotPoll => exact nextFits_answer h.hotPolls
  | mediaSettle => exact nextFits_answer h.mediaSettles
  | cutTimer => exact nextFits_answer h.cutExpires
  | placeLine => exact nextFits_answer h.placesLine
  | takeAppend => exact nextFits_answer h.takesAppend
  | eraseAheadStart => exact nextFits_answer h.startEraseAhead
  | programDone => exact nextFits_answer (h.programEnds _)
  | eraseDone => exact nextFits_answer (h.eraseEnds _)
  | readDone => exact nextFits_answer h.readEnds
  | scanEnd => exact nextFits_answer h.scanFinishes

theorem nextFits_step {s : State} (h : Fits replyPlaces s) : NextFits (step s) := by
  unfold step
  split
  · intro t ht
    cases ht
    exact h.tick
  · exact nextFits_exec (h.setPending _) _

/-- Settles O54: the bounds are kept by a microsecond and by every row, each by the operations that it is made of. -/
theorem everyStepKeepsTheQueuesBounded : Obligations.EveryStepKeepsTheQueuesBounded := by
  unfold Obligations.EveryStepKeepsTheQueuesBounded
  intro s t hreplies hnotices htext hstep
  exact (fits_iff t).mp (nextFits_step ((fits_iff s).mpr ⟨hreplies, hnotices, htext⟩) t hstep)

end Sys2Proof.Machine.QueueBounds
end

section
/-! SUPPORT. The journal array (R166): every operation of the model but the ends of a program and of an erase and a hardware reset leaves it as it
was, operation by operation in the order of the model; those keep its canonical form; and the statement O55 settled from it. -/

namespace Sys2Proof.Machine.JournalArray

/-! ## The journal's own operations -/

section journal
variable (j : Journal)

@[simp] theorem arbitrate_array : j.arbitrate.array = j.array := by
  obtain ⟨a, h⟩ := arbitrate_eq j
  rw [h]

@[simp] theorem ask_array (op : ArrayOp) : (j.ask op).array = j.array := by
  obtain ⟨a, h⟩ := ask_eq j op
  rw [h]

@[simp] theorem setBlock_array (b : Nat) (v : Option BlockState) : (j.setBlock b v).array = j.array := rfl

@[simp] theorem addSeq_array (b : Nat) (q : Seq) : (j.addSeq b q).array = j.array := by
  unfold Journal.addSeq
  split <;> rfl

@[simp] theorem moveWritePoint_array (n : Nat) : (j.moveWritePoint n).array = j.array := by
  unfold Journal.moveWritePoint
  split <;> rfl

@[simp] theorem askAppend_array (t : TakenAppend) : (j.askAppend t).array = j.array := by
  unfold Journal.askAppend
  split <;> simp

@[simp] theorem commit_array (t : TakenAppend) : (j.commit t).array = j.array := by
  unfold Journal.commit
  dsimp only
  split <;> split <;> simp

@[simp] theorem stopForFault_array (p : Bool) : (j.stopForFault p).array = j.array := by
  unfold Journal.stopForFault
  dsimp only
  rw [arbitrate_array]
  split <;> rfl

@[simp] theorem askIdentity_array (w : IdentityWrite) : (j.askIdentity w).array = j.array := by
  unfold Journal.askIdentity
  split <;> simp

@[simp] theorem startIdentity_array (store : Nat) (label : Text) : (j.startIdentity store label).array = j.array := by
  unfold Journal.startIdentity
  dsimp only
  split <;> simp

@[simp] theorem blockErasedNow_array (b : Nat) : (j.blockErasedNow b).array = j.array := by
  unfold Journal.blockErasedNow
  dsimp only
  split
  · split <;> rfl
  · rfl

@[simp] theorem identityErased_array : j.identityErased.array = j.array := by
  unfold Journal.identityErased
  dsimp only
  split <;> simp

@[simp] theorem scanRead_array : j.scanRead.array = j.array := by
  unfold Journal.scanRead
  split
  · split <;> simp
  · rfl

@[simp] theorem scanned_array : j.scanned.array = j.array := rfl
@[simp] theorem dropScan_array : j.dropScan.array = j.array := by simp [Journal.dropScan]

end journal

/-! ## Branches and folds -/

@[simp] theorem ite_array {c : Prop} [Decidable c] (s t : State) :
    (if c then s else t).journal.array = if c then s.journal.array else t.journal.array := apply_ite (·.journal.array) c s t

@[simp] theorem ite_fst_array {c : Prop} [Decidable c] (x y : Taken) :
    (if c then x else y).1.journal.array = if c then x.1.journal.array else y.1.journal.array := apply_ite (·.1.journal.array) c x y

@[simp] theorem foldl_array {α : Type} {f : State → α → State} (hf : ∀ u a, (f u a).journal.array = u.journal.array) (l : List α)
    (s : State) : (l.foldl f s).journal.array = s.journal.array := by
  induction l generalizing s with
  | nil => rfl
  | cons a as ih => exact (ih _).trans (hf s a)

/-! ## The operations of the part -/

section state
variable (s : State)

/-! ### Notices of the cluster unit and of the link (R36, R44, R181) -/

@[simp] theorem linkError_array (e : LinkErrors) (chars : Nat) : (s.linkError e chars).journal.array = s.journal.array := rfl
@[simp] theorem stationNotice_array (before : StationState) : (s.stationNotice before).journal.array = s.journal.array := rfl
@[simp] theorem setMode_array (m : LineMode) (cause : LineModeCause) : (s.setMode m cause).journal.array = s.journal.array := by simp [State.setMode]

/-! ### The composer (R155 to R164) -/

@[simp] theorem footerReached_array : s.footerReached.journal.array = s.journal.array := by
  unfold State.footerReached
  split <;> simp

@[simp] theorem composerVerdict_array : s.composerVerdict.journal.array = s.journal.array := by simp [State.composerVerdict]

@[simp] theorem seekCopy_array : s.seekCopy.journal.array = s.journal.array := by
  unfold State.seekCopy
  split <;> simp

@[simp] theorem putLine_array (t : Text) (next : Cursor) : (s.putLine t next).journal.array = s.journal.array := rfl
@[simp] theorem putUnreadable_array : s.putUnreadable.journal.array = s.journal.array := rfl

@[simp] theorem composeLine_array : s.composeLine.journal.array = s.journal.array := by
  unfold State.composeLine
  split
  · split <;> simp
  · rfl

@[simp] theorem copyRead_array (a n : Nat) : (s.copyRead a n).journal.array = s.journal.array := by
  unfold State.copyRead
  split <;> simp

/-! ### The print engine (R138 to R148) -/

@[simp] theorem engineTo_array (st : EngineState) : (s.engineTo st).journal.array = s.journal.array := by simp [State.engineTo]

@[simp] theorem stageRow_array : s.stageRow.journal.array = s.journal.array := by
  unfold State.stageRow
  split
  · split
    · split <;> rfl
    · split <;> simp
  · rfl

@[simp] theorem transfer_array (r : StagedRow) : (s.transfer r).journal.array = s.journal.array := by simp [State.transfer]

@[simp] theorem startStaged_array : s.startStaged.journal.array = s.journal.array := by
  unfold State.startStaged
  split <;> simp

@[simp] theorem startRow_array : s.startRow.journal.array = s.journal.array := by
  unfold State.startRow
  dsimp only
  split
  · simp
  · split
    · simp
    · split <;> simp

@[simp] theorem pauseMedia_array : s.pauseMedia.journal.array = s.journal.array := by simp [State.pauseMedia]
@[simp] theorem rowStart_array : s.rowStart.journal.array = s.journal.array := by simp [State.rowStart]
@[simp] theorem tellPrinter_array : s.tellPrinter.journal.array = s.journal.array := by simp [State.tellPrinter]
@[simp] theorem startCut_array : s.startCut.journal.array = s.journal.array := by simp [State.startCut]
@[simp] theorem rowBoundary_array (feed : Bool) : (s.rowBoundary feed).journal.array = s.journal.array := by simp [State.rowBoundary]

@[simp] theorem lineQueued_array : s.lineQueued.journal.array = s.journal.array := by
  unfold State.lineQueued
  split <;> simp

@[simp] theorem temperatureResult_array (t : Int) : (s.temperatureResult t).journal.array = s.journal.array := by
  unfold State.temperatureResult
  dsimp only
  split <;> simp

@[simp] theorem holdingFell_array : s.holdingFell.journal.array = s.journal.array := by
  unfold State.holdingFell
  split
  · rfl
  · split <;> simp

@[simp] theorem takeJob_array (k : JobKind) : (s.takeJob k).journal.array = s.journal.array := by simp [State.takeJob]
@[simp] theorem requestReceipt_array (k : JobKind) : (s.requestReceipt k).journal.array = s.journal.array := by simp [State.requestReceipt]

/-! ### The sale and the level (R19 to R21, R171, R176) -/

@[simp] theorem testCompletion_array : s.testCompletion.journal.array = s.journal.array := by simp [State.testCompletion]
@[simp] theorem saleVerdict_array (committed : Option Seq) : (s.saleVerdict committed).journal.array = s.journal.array := by simp [State.saleVerdict]

@[simp] theorem takenVerdict_array (receipt : Option Nat) (committed : Option Seq) :
    (s.takenVerdict receipt committed).journal.array = s.journal.array := by
  simp [State.takenVerdict]

@[simp] theorem printOutcome_array (p : PrintStatus) : (s.printOutcome p).journal.array = s.journal.array := by simp [State.printOutcome]
@[simp] theorem judgeJournal_array : s.judgeJournal.journal.array = s.journal.array := by simp [State.judgeJournal]
@[simp] theorem judgeBlocked_array : s.judgeBlocked.journal.array = s.journal.array := by simp [State.judgeBlocked]
@[simp] theorem enterFull_array : s.enterFull.journal.array = s.journal.array := by simp [State.enterFull]
@[simp] theorem handOver_array (a : Append) : (s.handOver a).journal.array = s.journal.array := by simp [State.handOver]

/-! ### The journal controller between and after the operations of the array (R172 to R179) -/

@[simp] theorem takeAppend_array : s.takeAppend.journal.array = s.journal.array := by
  unfold State.takeAppend
  split <;> simp

@[simp] theorem commitAppend_array (t : TakenAppend) : (s.commitAppend t).journal.array = s.journal.array := by
  unfold State.commitAppend
  dsimp only
  split <;> simp

@[simp] theorem enterFault_array (op : FailedOp) (block : Nat) (programming : Bool) :
    (s.enterFault op block programming).journal.array = s.journal.array := by
  cases h : s.journal.taken <;> simp [State.enterFault, h]

@[simp] theorem startEraseAhead_array : s.startEraseAhead.journal.array = s.journal.array := by
  unfold State.startEraseAhead
  split <;> simp

@[simp] theorem betweenOperations_array : s.betweenOperations.journal.array = s.journal.array := by simp [State.betweenOperations]

@[simp] theorem appendProgrammed_array : s.appendProgrammed.journal.array = s.journal.array := by
  unfold State.appendProgrammed
  split
  · simp
  · split <;> simp

@[simp] theorem identityProgrammed_array : s.identityProgrammed.journal.array = s.journal.array := by
  unfold State.identityProgrammed
  split
  · simp
  · split <;> simp

@[simp] theorem answerReader_array (tag : Byte) (b : ReplyBody) : (s.answerReader tag b).journal.array = s.journal.array := rfl
@[simp] theorem readerAsks_array (r : JournalReader) (a n : Nat) : (s.readerAsks r a n).journal.array = s.journal.array := by simp [State.readerAsks]

@[simp] theorem readerHeader_array (r : JournalReader) : (s.readerHeader r).journal.array = s.journal.array := by
  unfold State.readerHeader
  split <;> simp

@[simp] theorem readerRead_array (a n : Nat) : (s.readerRead a n).journal.array = s.journal.array := by
  unfold State.readerRead
  split
  · rfl
  · split
    · rfl
    · split <;> simp

@[simp] theorem readEnds_array : s.readEnds.journal.array = s.journal.array := by
  unfold State.readEnds
  split
  · simp only [setJournal_journal, arbitrate_array]
    split <;> simp
  · rfl

@[simp] theorem scanEnds_array : s.scanEnds.journal.array = s.journal.array := by simp [State.scanEnds]

/-! ### Supply and the station (R45, R51, R52, R57 to R60, R126) -/

@[simp] theorem enterKicking_array : s.enterKicking.journal.array = s.journal.array := by simp [State.enterKicking]
@[simp] theorem tellDrawer_array : s.tellDrawer.journal.array = s.journal.array := by simp [State.tellDrawer]
@[simp] theorem tellGrants_array : s.tellGrants.journal.array = s.journal.array := by simp [State.tellGrants]
@[simp] theorem enterClaiming_array : s.enterClaiming.journal.array = s.journal.array := by simp [State.enterClaiming]
@[simp] theorem requestKick_array : s.requestKick.journal.array = s.journal.array := by simp [State.requestKick]
@[simp] theorem enterListen_array : s.enterListen.journal.array = s.journal.array := by simp [State.enterListen]
@[simp] theorem leaveLoneWhenFree_array : s.leaveLoneWhenFree.journal.array = s.journal.array := by simp [State.leaveLoneWhenFree]
@[simp] theorem topupAfterRelease_array : s.topupAfterRelease.journal.array = s.journal.array := by simp [State.topupAfterRelease]
@[simp] theorem loneRelease_array (k : Consumer) : (s.loneRelease k).journal.array = s.journal.array := by simp [State.loneRelease]

@[simp] theorem releaseHolding_array (k : Consumer) : (s.releaseHolding k).journal.array = s.journal.array := by
  unfold State.releaseHolding
  dsimp only
  split <;> simp

@[simp] theorem applyLone_array (b : OutBody) : (s.applyLone b).journal.array = s.journal.array := by
  cases b <;> simp [State.applyLone]

@[simp] theorem askForClipped_array (clippedToZero : Bool) : (s.askForClipped clippedToZero).journal.array = s.journal.array := by
  simp [State.askForClipped]

@[simp] theorem callNoticeIfMoved_array (before : Cluster) : (s.callNoticeIfMoved before).journal.array = s.journal.array := by
  simp [State.callNoticeIfMoved]

@[simp] theorem enterLone_array (cause : LoneCause) : (s.enterLone cause).journal.array = s.journal.array := by simp [State.enterLone]

/-! ### The drawer controller (R124 to R134) -/

@[simp] theorem countOpening_array : s.countOpening.journal.array = s.journal.array := by simp [State.countOpening]
@[simp] theorem enterOpen_array : s.enterOpen.journal.array = s.journal.array := by simp [State.enterOpen]
@[simp] theorem enterForced_array : s.enterForced.journal.array = s.journal.array := by simp [State.enterForced]
@[simp] theorem enterJammed_array (cause : JamCause) : (s.enterJammed cause).journal.array = s.journal.array := by simp [State.enterJammed]
@[simp] theorem enterClosed_array (handed : Bool) : (s.enterClosed handed).journal.array = s.journal.array := by simp [State.enterClosed]

@[simp] theorem drawerDeparts_array : s.drawerDeparts.journal.array = s.journal.array := by
  unfold State.drawerDeparts
  split <;> simp

@[simp] theorem drawerReturns_array : s.drawerReturns.journal.array = s.journal.array := by
  unfold State.drawerReturns
  split <;> simp

@[simp] theorem drawerFollows_array (matching : Bool) : (s.drawerFollows matching).journal.array = s.journal.array := by
  unfold State.drawerFollows
  split <;> simp

@[simp] theorem drawerWatch_array (matching : Bool) : (s.drawerWatch matching).journal.array = s.journal.array := by
  unfold State.drawerWatch
  split <;> simp

@[simp] theorem claimExpires_array : s.claimExpires.journal.array = s.journal.array := by
  unfold State.claimExpires
  split <;> simp

@[simp] theorem afterPulse_array : s.afterPulse.journal.array = s.journal.array := by simp [State.afterPulse]

@[simp] theorem pulseEnds_array : s.pulseEnds.journal.array = s.journal.array := by
  unfold State.pulseEnds
  split <;> simp

@[simp] theorem confirmExpires_array : s.confirmExpires.journal.array = s.journal.array := by
  unfold State.confirmExpires
  split <;> simp

@[simp] theorem gapExpires_array : s.gapExpires.journal.array = s.journal.array := by
  unfold State.gapExpires
  split <;> simp

@[simp] theorem openAlarm_array : s.openAlarm.journal.array = s.journal.array := by simp [State.openAlarm]
@[simp] theorem openLong_array : s.openLong.journal.array = s.journal.array := by simp [State.openLong]
@[simp] theorem drawerLaneReset_array : s.drawerLaneReset.journal.array = s.journal.array := by simp [State.drawerLaneReset]

/-! ### The bagging verifier and the capture unit (R85 to R103) -/

@[simp] theorem baggingNotice_array (r : BaggingResult) : (s.baggingNotice r).journal.array = s.journal.array := rfl
@[simp] theorem setLineBag_array (i : Nat) (b : BagStatus) : (s.setLineBag i b).journal.array = s.journal.array := by simp [State.setLineBag]
@[simp] theorem postPlace_array (line : Nat) (expected tolerance : Nat) : (s.postPlace line expected tolerance).journal.array = s.journal.array := rfl

@[simp] theorem postRemove_array (line : Nat) : (s.postRemove line).journal.array = s.journal.array := by
  unfold State.postRemove
  split <;> simp

@[simp] theorem withdrawTimeout_array : s.withdrawTimeout.journal.array = s.journal.array := by simp [State.withdrawTimeout]

@[simp] theorem baggingVoid_array (i : Nat) (b : BagStatus) : (s.baggingVoid i b).journal.array = s.journal.array := by
  unfold State.baggingVoid
  split <;> simp

@[simp] theorem clearExpectations_array : s.clearExpectations.journal.array = s.journal.array := rfl
@[simp] theorem settleAtBaseline_array : s.settleAtBaseline.journal.array = s.journal.array := by simp [State.settleAtBaseline]
@[simp] theorem settleFound_array (n : Nat) (w : Int) : (s.settleFound n w).journal.array = s.journal.array := by simp [State.settleFound]
@[simp] theorem settleNotFound_array (delta : Int) : (s.settleNotFound delta).journal.array = s.journal.array := by simp [State.settleNotFound]

@[simp] theorem settleEvent_array (w : Int) : (s.settleEvent w).journal.array = s.journal.array := by
  unfold State.settleEvent
  dsimp only
  split
  · split
    · rfl
    · split
      · simp
      · split <;> simp
  · rfl

@[simp] theorem baselineEvent_array (w : Int) : (s.baselineEvent w).journal.array = s.journal.array := rfl
@[simp] theorem deadlinePasses_array (line : Nat) : (s.deadlinePasses line).journal.array = s.journal.array := by simp [State.deadlinePasses]
@[simp] theorem baggingCleared_array (w : Int) : (s.baggingCleared w).journal.array = s.journal.array := by simp [State.baggingCleared]
@[simp] theorem captured_array (c : CaptureRec) (grams : Nat) : (s.captured c grams).journal.array = s.journal.array := by simp [State.captured]

@[simp] theorem captureWeight_array (st : ChannelState) (stable : Bool) (gross net : Int) :
    (s.captureWeight st stable gross net).journal.array = s.journal.array := by
  unfold State.captureWeight
  dsimp only
  split
  · rfl
  · split <;> simp

/-! ### The scale front end (R68 to R84) -/

@[simp] theorem weightNotice_array : s.weightNotice.journal.array = s.journal.array := rfl
@[simp] theorem produceFormed_array : s.produceFormed.journal.array = s.journal.array := by simp [State.produceFormed]
@[simp] theorem baggingFormed_array (before : Channel) : (s.baggingFormed before).journal.array = s.journal.array := by simp [State.baggingFormed]

@[simp] theorem produceSample_array (twice : Int) : (s.produceSample twice).journal.array = s.journal.array := by
  unfold State.produceSample
  dsimp only
  split <;> simp

@[simp] theorem baggingSample_array (twice : Int) : (s.baggingSample twice).journal.array = s.journal.array := by
  unfold State.baggingSample
  dsimp only
  split <;> simp

@[simp] theorem produceReading_array (r : Int) : (s.produceReading r).journal.array = s.journal.array := by
  unfold State.produceReading
  split
  · rfl
  · split <;> simp

@[simp] theorem baggingReading_array (r : Int) : (s.baggingReading r).journal.array = s.journal.array := by
  unfold State.baggingReading
  split
  · rfl
  · split <;> simp

@[simp] theorem conversionEnds_array (result : Int) : (s.conversionEnds result).journal.array = s.journal.array := by
  unfold State.conversionEnds
  dsimp only
  split
  · rfl
  · split <;> simp

@[simp] theorem weightNoticeIfChanged_array (before : Scale) : (s.weightNoticeIfChanged before).journal.array = s.journal.array := by
  simp [State.weightNoticeIfChanged]

@[simp] theorem restartTakesEffect_array : s.restartTakesEffect.journal.array = s.journal.array := by simp [State.restartTakesEffect]

@[simp] theorem periodBoundary_array : s.periodBoundary.journal.array = s.journal.array := by
  unfold State.periodBoundary
  split <;> simp

@[simp] theorem forcedCutoff_array : s.forcedCutoff.journal.array = s.journal.array := by simp [State.forcedCutoff]

@[simp] theorem bridgeChanges_array (l : BridgeLevel) : (s.bridgeChanges l).journal.array = s.journal.array := by
  unfold State.bridgeChanges
  split <;> simp

@[simp] theorem startScale_array (v : ConfigValues) : (s.startScale v).journal.array = s.journal.array := by
  unfold State.startScale
  dsimp only
  split <;> simp

@[simp] theorem weightNoticeIfNet_array (before : Option Int) : (s.weightNoticeIfNet before).journal.array = s.journal.array := by
  simp [State.weightNoticeIfNet]

@[simp] theorem clearTareNow_array : s.clearTareNow.journal.array = s.journal.array := by simp [State.clearTareNow]

/-! ### The ends of print jobs and the media (R140 to R154) -/

@[simp] theorem reportOutcome_array (o : JobOutcome) (p : PrintStatus) : (s.reportOutcome o p).journal.array = s.journal.array := by
  unfold State.reportOutcome
  split
  · dsimp only [setComposer_journal]
    split <;> rfl
  · simp
  · rfl

@[simp] theorem engineIdle_array (o : JobOutcome) : (s.engineIdle o).journal.array = s.journal.array := by simp [State.engineIdle]

@[simp] theorem handWaitingJob_array : s.handWaitingJob.journal.array = s.journal.array := by
  unfold State.handWaitingJob
  split <;> simp

@[simp] theorem endJob_array (o : JobOutcome) (p : PrintStatus) : (s.endJob o p).journal.array = s.journal.array := by simp [State.endJob]
@[simp] theorem abandonJob_array : s.abandonJob.journal.array = s.journal.array := by simp [State.abandonJob]

@[simp] theorem passEnds_array : s.passEnds.journal.array = s.journal.array := by
  unfold State.passEnds
  split
  · rfl
  · split
    · rfl
    · split <;> rfl

@[simp] theorem stepEnds_array : s.stepEnds.journal.array = s.journal.array := by
  unfold State.stepEnds
  dsimp only
  split
  · rfl
  · split <;> simp

@[simp] theorem mediaPauses_array : s.mediaPauses.journal.array = s.journal.array := by
  unfold State.mediaPauses
  split <;> simp

@[simp] theorem raisePaperOut_array : s.raisePaperOut.journal.array = s.journal.array := by simp [State.raisePaperOut]
@[simp] theorem mediaWatch_array (matching : Bool) : (s.mediaWatch matching).journal.array = s.journal.array := by simp [State.mediaWatch]

@[simp] theorem mediaSettles_array : s.mediaSettles.journal.array = s.journal.array := by
  unfold State.mediaSettles
  split <;> simp

@[simp] theorem nearEndWatch_array (matching : Bool) : (s.nearEndWatch matching).journal.array = s.journal.array := by simp [State.nearEndWatch]
@[simp] theorem cutterReturns_array : s.cutterReturns.journal.array = s.journal.array := by simp [State.cutterReturns]
@[simp] theorem cutterWatch_array (matching : Bool) : (s.cutterWatch matching).journal.array = s.journal.array := by simp [State.cutterWatch]

@[simp] theorem cutExpires_array : s.cutExpires.journal.array = s.journal.array := by
  unfold State.cutExpires
  split <;> simp

@[simp] theorem startEngine_array (headMax : Nat) : (s.startEngine headMax).journal.array = s.journal.array := by
  unfold State.startEngine
  dsimp only
  split
  · split <;> simp
  · split <;> simp

/-! ### The authority timer, the card decoder and the sense unit (R104 to R123) -/

@[simp] theorem emptyWanted_array : s.emptyWanted.journal.array = s.journal.array := by simp [State.emptyWanted]

@[simp] theorem clearSucceeds_array (source : AuthSource) (digits : Text) (clear : Option Int) :
    (s.clearSucceeds source digits clear).journal.array = s.journal.array := by
  unfold State.clearSucceeds
  split <;> simp

@[simp] theorem clearAttempt_array (source : AuthSource) (digits : Text) : (s.clearAttempt source digits).1.journal.array = s.journal.array := by
  unfold State.clearAttempt
  split
  · rfl
  · split
    · split
      · simp
      · split <;> simp
    · split <;> simp

@[simp] theorem attendantClear_array (source : AuthSource) (digits : Text) : (s.attendantClear source digits).journal.array = s.journal.array := by
  simp [State.attendantClear]

@[simp] theorem attendantCard_array (digits : Text) : (s.attendantCard digits).journal.array = s.journal.array := by simp [State.attendantCard]

@[simp] theorem keyDeparts_array : s.keyDeparts.journal.array = s.journal.array := by
  unfold State.keyDeparts
  split <;> simp

@[simp] theorem keyWatch_array (matching : Bool) : (s.keyWatch matching).journal.array = s.journal.array := by simp [State.keyWatch]
@[simp] theorem windowExpires_array : s.windowExpires.journal.array = s.journal.array := by simp [State.windowExpires]
@[simp] theorem authorityLaneReset_array : s.authorityLaneReset.journal.array = s.journal.array := by simp [State.authorityLaneReset]
@[simp] theorem settleKey_array : s.settleKey.journal.array = s.journal.array := by simp [State.settleKey]

@[simp] theorem handleRecord_array (r : CardRecord) : (s.handleRecord r).journal.array = s.journal.array := by
  unfold State.handleRecord
  split <;> simp

@[simp] theorem decodingEnds_array : s.decodingEnds.journal.array = s.journal.array := by
  unfold State.decodingEnds
  split <;> simp

@[simp] theorem spareNotice_array (i : SenseInput) : (s.spareNotice i).journal.array = s.journal.array := rfl

@[simp] theorem deliver_array (before after : Watch) {owner : State → Bool → State}
    (howner : ∀ matching, (owner s matching).journal.array = s.journal.array) :
    (s.deliver before after owner).journal.array = s.journal.array := by
  simp [State.deliver, howner]

@[simp] theorem senseEvents_array (i : SenseInput) (before : Sense) : (s.senseEvents i before).journal.array = s.journal.array := by
  cases i <;> simp [State.senseEvents]

@[simp] theorem debounced_array (i : SenseInput) : (s.debounced i).journal.array = s.journal.array := by
  unfold State.debounced
  dsimp only
  split <;> simp

/-! ### Frames on the cluster bus and the timers of the station (R25 to R63) -/

@[simp] theorem countVerdicts_array (v : Verdicts) : (s.countVerdicts v).journal.array = s.journal.array := by
  unfold State.countVerdicts
  dsimp only
  split <;> simp

@[simp] theorem noticeAll_array (ns : List Notice) :
    (s.noticeAll ns).journal.array = s.journal.array := foldl_array (f := State.notice) (fun _ _ => rfl) ns s

@[simp] theorem takeFrame_array (f : Frame) (ours : Bool) : (s.takeFrame f ours).journal.array = s.journal.array := by simp [State.takeFrame]

@[simp] theorem ownVetoed_array (f : Frame) : (s.ownVetoed f).journal.array = s.journal.array := by
  unfold State.ownVetoed
  dsimp only
  split <;> simp

@[simp] theorem ownFailed_array (x : FailedSend) : (s.ownFailed x).journal.array = s.journal.array := by
  unfold State.ownFailed
  dsimp only
  split
  · simp
  · split <;> simp

@[simp] theorem lostArbitration_array : s.lostArbitration.journal.array = s.journal.array := by simp [State.lostArbitration]
@[simp] theorem ownAborted_array (v : Verdicts) : (s.ownAborted v).journal.array = s.journal.array := by simp [State.ownAborted]

@[simp] theorem ownOutcome_array (f : Frame) (v : Verdicts) (others : ResponseSlots) : (s.ownOutcome f v others).journal.array = s.journal.array := by
  unfold State.ownOutcome
  split <;> simp

@[simp] theorem ownFrameEnds_array (f : Frame) (r : Reading × Reading × Reading) (others : ResponseSlots) :
    (s.ownFrameEnds f r others).journal.array = s.journal.array := by
  unfold State.ownFrameEnds
  dsimp only
  split <;> simp

@[simp] theorem peerOutcome_array (copy : Option Frame) (others : ResponseSlots) : (s.peerOutcome copy others).journal.array = s.journal.array := by
  unfold State.peerOutcome
  split <;> simp

@[simp] theorem peerFrameEnds_array (f : Frame) (r : Reading × Reading × Reading) (others : ResponseSlots) :
    (s.peerFrameEnds f r others).journal.array = s.journal.array := by
  simp [State.peerFrameEnds]

@[simp] theorem frameEnds_array (f : Frame) (h : Heard) (others : ResponseSlots) : (s.frameEnds f h others).journal.array = s.journal.array := by
  unfold State.frameEnds
  split
  · split <;> simp
  · rfl

@[simp] theorem frameAborts_array (ours : Bool) (v : Verdicts) : (s.frameAborts ours v).journal.array = s.journal.array := by simp [State.frameAborts]
@[simp] theorem enterJoining_array : s.enterJoining.journal.array = s.journal.array := rfl

@[simp] theorem listenExpires_array : s.listenExpires.journal.array = s.journal.array := by
  unfold State.listenExpires
  split <;> simp

@[simp] theorem retryExpires_array : s.retryExpires.journal.array = s.journal.array := by
  unfold State.retryExpires
  split <;> simp

@[simp] theorem startCluster_array (budget : Nat) : (s.startCluster budget).journal.array = s.journal.array := by simp [State.startCluster]

/-! ### The commands (R10 to R22, R178, R185, R187) -/

@[simp] theorem refuse_array (r : RefusalReason) : (s.refuse r).1.journal.array = s.journal.array := rfl
@[simp] theorem done_array (f : ReplyFields) : (s.done f).1.journal.array = s.journal.array := rfl
@[simp] theorem accepted_array (f : ReplyFields) : (s.accepted f).1.journal.array = s.journal.array := rfl
@[simp] theorem kickForCash_array : s.kickForCash.journal.array = s.journal.array := by simp [State.kickForCash]
@[simp] theorem settle_array : s.settle.journal.array = s.journal.array := by simp [State.settle]

@[simp] theorem addTender_array (t : Tender) : (s.addTender t).journal.array = s.journal.array := by
  unfold State.addTender
  dsimp only
  split <;> simp

@[simp] theorem voidSaleNow_array : s.voidSaleNow.journal.array = s.journal.array := by simp [State.voidSaleNow]

@[simp] theorem openSale_array (reference stamp : BitVec 32) : (s.openSale reference stamp).1.journal.array = s.journal.array := by
  unfold State.openSale
  split
  · rfl
  · split <;> simp

@[simp] theorem appendItem_array (f : LineFields) : (s.appendItem f).1.journal.array = s.journal.array := by
  unfold State.appendItem
  split <;> simp

@[simp] theorem addLine_array (f : LineFields) : (s.addLine f).1.journal.array = s.journal.array := by simp [State.addLine]
@[simp] theorem voidLineNow_array (i : Nat) (l : Line) : (s.voidLineNow i l).1.journal.array = s.journal.array := by simp [State.voidLineNow]

@[simp] theorem voidLine_array (i : Nat) : (s.voidLine i).1.journal.array = s.journal.array := by
  unfold State.voidLine
  split
  · rfl
  · split
    · rfl
    · split <;> simp

@[simp] theorem total_array : (s.total).1.journal.array = s.journal.array := by simp [State.total]
@[simp] theorem tenderCash_array (amount : Nat) : (s.tenderCash amount).1.journal.array = s.journal.array := by simp [State.tenderCash]

@[simp] theorem tenderCard_array (amount : Nat) (approval : Text) : (s.tenderCard amount approval).1.journal.array = s.journal.array := by
  unfold State.tenderCard
  split
  · rfl
  · split
    · rfl
    · split
      · rfl
      · split <;> simp

@[simp] theorem voidSale_array : (s.voidSale).1.journal.array = s.journal.array := by simp [State.voidSale]

@[simp] theorem startCapture_array (desc : Text) (price : Nat) (bag : Bool) : (s.startCapture desc price bag).1.journal.array = s.journal.array := by
  unfold State.startCapture
  dsimp only
  split
  · split <;> simp
  · split <;> simp

@[simp] theorem weighItem_array (desc : Text) (price bag : Nat) : (s.weighItem desc price bag).1.journal.array = s.journal.array := by
  simp [State.weighItem]

@[simp] theorem cancelWeigh_array : (s.cancelWeigh).1.journal.array = s.journal.array := by simp [State.cancelWeigh]
@[simp] theorem restartScale_array : (s.restartScale).1.journal.array = s.journal.array := by simp [State.restartScale]

@[simp] theorem setZero_array : (s.setZero).1.journal.array = s.journal.array := by
  unfold State.setZero
  split
  · rfl
  · dsimp only
    split
    · rfl
    · split
      · rfl
      · split
        · rfl
        · split <;> rfl

@[simp] theorem takeTare_array (d : Nat) : (s.takeTare d).1.journal.array = s.journal.array := rfl

@[simp] theorem setTare_array (preset : Option Nat) : (s.setTare preset).1.journal.array = s.journal.array := by
  unfold State.setTare
  split
  · rfl
  · split <;> simp

@[simp] theorem clearTare_array : (s.clearTare).1.journal.array = s.journal.array := by simp [State.clearTare]

@[simp] theorem discardCard_array : (s.discardCard).1.journal.array = s.journal.array := by
  unfold State.discardCard
  split <;> simp

@[simp] theorem raiseAssist_array : (s.raiseAssist).1.journal.array = s.journal.array := by simp [State.raiseAssist]
@[simp] theorem withdrawAssist_array : (s.withdrawAssist).1.journal.array = s.journal.array := by simp [State.withdrawAssist]
@[simp] theorem noSale_array : (s.noSale).1.journal.array = s.journal.array := by simp [State.noSale]

@[simp] theorem retryDrawer_array : (s.retryDrawer).1.journal.array = s.journal.array := by
  unfold State.retryDrawer
  split
  · rfl
  · split <;> simp

@[simp] theorem playTone_array (tone : Nat) : (s.playTone tone).1.journal.array = s.journal.array := by
  unfold State.playTone
  split <;> simp

@[simp] theorem stopTone_array : (s.stopTone).1.journal.array = s.journal.array := by simp [State.stopTone]

@[simp] theorem reprintLast_array : (s.reprintLast).1.journal.array = s.journal.array := by
  unfold State.reprintLast
  split
  · rfl
  · split
    · rfl
    · split
      · rfl
      · split <;> simp

@[simp] theorem writeIdentity_array (store : Nat) (label : Text) : (s.writeIdentity store label).1.journal.array = s.journal.array := by
  unfold State.writeIdentity
  split
  · rfl
  · split
    · rfl
    · split
      · rfl
      · simp

@[simp] theorem readJournal_array (tag : Byte) (q : Seq) (offset : Nat) : (s.readJournal tag q offset).1.journal.array = s.journal.array := by
  unfold State.readJournal
  split
  · rfl
  · split
    · rfl
    · split <;> simp

@[simp] theorem queueMark_array (q : Seq) : (s.queueMark q).journal.array = s.journal.array := by simp [State.queueMark]
@[simp] theorem confirmExport_array (q : Seq) : (s.confirmExport q).1.journal.array = s.journal.array := by simp [State.confirmExport]
@[simp] theorem configureNow_array (v : ConfigValues) : (s.configureNow v).journal.array = s.journal.array := by simp [State.configureNow]

@[simp] theorem configure_array (v : ConfigValues) : (s.configure v).1.journal.array = s.journal.array := by
  unfold State.configure
  split <;> simp

@[simp] theorem readStatus_array : (s.readStatus).1.journal.array = s.journal.array := rfl
@[simp] theorem discardSale_array : s.discardSale.journal.array = s.journal.array := by simp [State.discardSale]
@[simp] theorem scaleLaneReset_array : s.scaleLaneReset.journal.array = s.journal.array := by simp [State.scaleLaneReset]
@[simp] theorem laneResetNow_array : s.laneResetNow.journal.array = s.journal.array := by simp [State.laneResetNow]
@[simp] theorem laneReset_array : (s.laneReset).1.journal.array = s.journal.array := by simp [State.laneReset]

/-! ### The lane link (R180 to R184) -/

@[simp] theorem setAssembler_array (a : Assembler) : (s.setAssembler a).journal.array = s.journal.array := rfl

@[simp] theorem concludeCommand_array (kind tag : Byte) (x : Taken) : (concludeCommand kind tag x).journal.array = x.1.journal.array := by
  unfold concludeCommand
  split <;> rfl

@[simp] theorem whenRunning_array {f : State → Taken} (hf : (f s).1.journal.array = s.journal.array) :
    (s.whenRunning f).1.journal.array = s.journal.array := by
  simp [State.whenRunning, hf]

@[simp] theorem perform_array (tag : Byte) (c : HostCommand) : (s.perform tag c).1.journal.array = s.journal.array := by
  cases c <;> simp [State.perform]

@[simp] theorem takeCommand_array (tag : Byte) (c : HostCommand) : (s.takeCommand tag c).journal.array = s.journal.array := by
  simp [State.takeCommand]

@[simp] theorem takeBody_array (body : List Byte) : (s.takeBody body).journal.array = s.journal.array := by
  unfold State.takeBody
  split <;> simp

@[simp] theorem arrive_array (tag : Byte) (c : HostCommand) : (s.arrive tag c).journal.array = s.journal.array := by
  unfold State.arrive
  split
  · rfl
  · split <;> simp

@[simp] theorem acceptMessage_array (body : List Byte) : (s.acceptMessage body).journal.array = s.journal.array := by
  unfold State.acceptMessage
  split <;> simp

@[simp] theorem completeMessage_array (c : LinkChar) : (s.completeMessage c).journal.array = s.journal.array := by simp [State.completeMessage]
@[simp] theorem lengthCharacter_array (c : LinkChar) : (s.lengthCharacter c).journal.array = s.journal.array := by simp [State.lengthCharacter]
@[simp] theorem bodyCharacter_array (c : LinkChar) : (s.bodyCharacter c).journal.array = s.journal.array := rfl
@[simp] theorem huntCharacter_array (c : LinkChar) : (s.huntCharacter c).journal.array = s.journal.array := by simp [State.huntCharacter]

@[simp] theorem characterArrives_array (c : LinkChar) : (s.characterArrives c).journal.array = s.journal.array := by
  unfold State.characterArrives
  split
  · rfl
  · split <;> simp

@[simp] theorem messageCompletes_array (c : LinkChar) : (s.messageCompletes c).journal.array = s.journal.array := by
  unfold State.messageCompletes
  split <;> simp

@[simp] theorem gapExpiresInMessage_array : s.gapExpiresInMessage.journal.array = s.journal.array := by
  unfold State.gapExpiresInMessage
  dsimp only
  split <;> simp

@[simp] theorem handOverHeld_array : s.handOverHeld.journal.array = s.journal.array := by
  unfold State.handOverHeld
  dsimp only
  split
  · rfl
  · split <;> simp

/-! ### Short rules of single rows, and a microsecond -/

@[simp] theorem captureExpires_array : s.captureExpires.journal.array = s.journal.array := by simp [State.captureExpires]

@[simp] theorem hotPolls_array : s.hotPolls.journal.array = s.journal.array := by
  unfold State.hotPolls
  split <;> simp

@[simp] theorem placesLine_array : s.placesLine.journal.array = s.journal.array := by simp [State.placesLine]

@[simp] theorem trackMoves_array (k : Track) (interval : Nat) : (s.trackMoves k interval).journal.array = s.journal.array := by
  unfold State.trackMoves
  split <;> simp

@[simp] theorem takesAppend_array : s.takesAppend.journal.array = s.journal.array := by
  unfold State.takesAppend
  split <;> simp

@[simp] theorem scanFinishes_array : s.scanFinishes.journal.array = s.journal.array := by
  unfold State.scanFinishes
  split <;> simp

@[simp] theorem windowRunsOut_array : s.windowRunsOut.journal.array = s.journal.array := by
  unfold State.windowRunsOut
  split <;> simp

@[simp] theorem rawChanges_array (i : SenseInput) (l : Level) : (s.rawChanges i l).journal.array = s.journal.array := rfl

@[simp] theorem tick_array : s.tick.journal.array = s.journal.array := by
  unfold State.tick Journal.tick
  dsimp only
  split <;> rfl

/-! ## The operations that write the array (R166) -/

/-- A program that ends leaves of the array what a program of some bytes makes of it, whole or failed; with none running it is as it was. -/
theorem programEnds_array_cases (verified : Bool) :
    (s.programEnds verified).journal.array = s.journal.array ∨
    ∃ a bs, (s.programEnds verified).journal.array = Memory.program s.journal.array a bs ∨
      (s.programEnds verified).journal.array = Memory.failedProgram s.journal.array a bs s.fresh := by
  unfold State.programEnds
  split
  · next owner a bs _ =>
    refine .inr ⟨a, bs, ?_⟩
    cases verified
    · exact .inr (by cases owner <;> simp)
    · exact .inl (by cases owner <;> simp)
  · exact .inl rfl

/-- An erase that ends leaves of the array what an erase of some block makes of it, whole or failed; with none running it is as it was. -/
theorem eraseEnds_array_cases (verified : Bool) :
    (s.eraseEnds verified).journal.array = s.journal.array ∨
    ∃ b, (s.eraseEnds verified).journal.array = Memory.erase s.journal.array b ∨
      (s.eraseEnds verified).journal.array = Memory.failedErase s.journal.array b s.fresh := by
  unfold State.eraseEnds
  split
  · next e _ =>
    refine .inr ⟨e.block, ?_⟩
    cases verified
    · exact .inr (by by_cases hb : e.block = 0 <;> simp [hb])
    · exact .inl (by cases e.owner <;> simp)
  · exact .inl rfl

end state

/-! ## The canonical form -/

section canonical
variable {s t : State}

theorem arrayWf_of_array_eq (h : s.arrayWf) (harray : t.journal.array = s.journal.array) : t.arrayWf := by
  rwa [State.arrayWf, harray]

theorem arrayWf_programEnds (h : s.arrayWf) (verified : Bool) : (s.programEnds verified).arrayWf := by
  unfold State.arrayWf at h ⊢
  obtain hsame | ⟨a, bs, hwhole | hfailed⟩ := programEnds_array_cases s verified
  · rwa [hsame]
  · exact hwhole ▸ Memory.wf_program _ a bs h
  · exact hfailed ▸ Memory.wf_failedProgram _ a bs s.fresh h

theorem arrayWf_eraseEnds (h : s.arrayWf) (verified : Bool) : (s.eraseEnds verified).arrayWf := by
  unfold State.arrayWf at h ⊢
  obtain hsame | ⟨b, hwhole | hfailed⟩ := eraseEnds_array_cases s verified
  · rwa [hsame]
  · exact hwhole ▸ Memory.wf_erase _ b h
  · exact hfailed ▸ Memory.wf_failedErase _ b s.fresh h

/-- A reset keeps of the array what it has not cut. -/
theorem arrayWf_resetHard (h : s.arrayWf) (pins : Pins) : (s.resetHard pins).arrayWf := Journal.wf_cutArray s.journal s.fresh h

/-- An outcome whose next state, if it has one, has a canonical array. -/
def NextCanonical (r : Result) : Prop := ∀ t, r = .next t → t.arrayWf

theorem nextCanonical_answer (h : t.arrayWf) : NextCanonical (answer t) := fun _ hnext => by
  cases hnext
  exact arrayWf_of_array_eq h rfl

/-- The rows of a program, of an erase and of a hardware reset write the array, and every other row leaves it as it was. -/
theorem nextCanonical_exec (h : s.arrayWf) (i : Instr) : NextCanonical (exec i s) := by
  have unwritten {t : State} (harray : t.journal.array = s.journal.array) : NextCanonical (answer t) :=
    nextCanonical_answer (arrayWf_of_array_eq h harray)
  cases i with
  | programDone verified => exact nextCanonical_answer (arrayWf_programEnds h verified)
  | eraseDone verified => exact nextCanonical_answer (arrayWf_eraseEnds h verified)
  | powerOnReset pins | pinReset pins => exact nextCanonical_answer (arrayWf_resetHard h pins)
  | _ => exact unwritten (by simp)

theorem nextCanonical_step (h : s.arrayWf) : NextCanonical (step s) := by
  unfold step
  split
  · intro t hnext
    cases hnext
    exact arrayWf_of_array_eq h (tick_array s)
  · next c rest _ => exact nextCanonical_exec (s := s.setPending rest) (arrayWf_of_array_eq h rfl) c

end canonical

/-- Settles O55: the frames above, and the canonical form kept by each operation that writes the array. -/
theorem everyStepKeepsTheArrayCanonical : Obligations.EveryStepKeepsTheArrayCanonical := by
  unfold Obligations.EveryStepKeepsTheArrayCanonical
  exact fun _ t harray hstep => nextCanonical_step harray t hstep
end Sys2Proof.Machine.JournalArray
end

section
/-! SUPPORT. The journal store's commands and its start (Chapter 10): WRITE IDENTITY and CONFIRM EXPORT (R168, R178), READ JOURNAL (R177) and the end
of the start-up scan (R179): the branches of each rule, and the statements O48, O51 and O52 settled from them. -/

namespace Sys2Proof.Machine.JournalStore

open ScaleFrontEnd JournalArray

/-! ## WRITE IDENTITY (R168) -/

section writeIdentity
variable {s : State} {n : Nat} {l : Text}

/-- R168: the writing that WRITE IDENTITY starts. -/
def identityWriteOf (j : Journal) (store : Nat) (label : Text) : IdentityWrite :=
  { store := store, label := label, erase := decide (j.identity = .damaged), programs := recordPrograms 0 (identityBytes store label),
    touched := false }

theorem askIdentity_eq (j : Journal) (w : IdentityWrite) : ∃ a, j.askIdentity w = { j with identityWrite := some w, arbiter := a } := by
  unfold Journal.askIdentity
  split
  · next a bs _ _ =>
    obtain ⟨b, hb⟩ := ask_eq { j with identityWrite := some w } (.program .identity a bs)
    exact ⟨b, hb⟩
  · exact ⟨j.arbiter, rfl⟩

/-- R168: the start of the writing notes it and asks the arbiter for its first operation; nothing else. -/
theorem startIdentity_eq (j : Journal) (store : Nat) (label : Text) :
    ∃ a, j.startIdentity store label = { j with identityWrite := some (identityWriteOf j store label), arbiter := a } := by
  unfold Journal.startIdentity
  dsimp only
  split
  · exact arbitrate_eq { j with identityWrite := some (identityWriteOf j store label) }
  · exact askIdentity_eq j (identityWriteOf j store label)

theorem writeIdentity_of_written (hpart : s.link.part ≠ .starting) (hstore : n ≤ 9999) (hlabel : textIn 1 8 l = true)
    (h : s.journal.identity.isWritten) : s.writeIdentity n l = s.refuse .locked := by
  obtain ⟨store, label, hidentity⟩ := h
  simp [State.writeIdentity, hpart, Nat.not_lt.mpr hstore, hlabel, hidentity]

theorem writeIdentity_of_unwritten (hpart : s.link.part ≠ .starting) (hstore : n ≤ 9999) (hlabel : textIn 1 8 l = true)
    (hunwritten : ¬ s.journal.identity.isWritten) (hidle : s.journal.identityWrite = none) (hlevel : s.journal.level ≠ .fault) :
    s.writeIdentity n l = (s.setJournal (s.journal.startIdentity n l)).accepted .nothing := by
  unfold State.writeIdentity
  rw [if_neg hpart, if_neg (by simp [hlabel, hstore])]
  split
  · next store label hidentity => exact absurd ⟨store, label, hidentity⟩ hunwritten
  · simp [hidle, hlevel]

end writeIdentity

/-! ## CONFIRM EXPORT (R178) -/

section confirm
variable {s : State} {q : Seq}

theorem confirmExport_of_refused (hlevel : s.journal.level ≠ .fault) (h : s.journal.exportAllowed q = false) :
    s.confirmExport q = s.refuse .range := by
  simp [State.confirmExport, hlevel, h]

theorem confirmExport_of_allowed (hlevel : s.journal.level ≠ .fault) (h : s.journal.exportAllowed q = true) :
    s.confirmExport q = (s.queueMark q).accepted .nothing := by
  simp [State.confirmExport, hlevel, h]

theorem queueMark_of_waiting (h : s.journal.waitingMark ≠ none) :
    s.queueMark q = s.setJournal { s.journal with queue := s.journal.queue.map (fun a => if a.isMark then .mark q else a) } :=
  if_pos (Option.isSome_iff_ne_none.mpr h)

theorem queueMark_of_none (h : s.journal.waitingMark = none) : s.queueMark q = s.handOver (.mark q) := by
  simp [State.queueMark, h]

end confirm

/-! ### A hand-over forms no reply, and outside FAULT leaves the mark (R171, R176) -/

section handOver
variable (s : State)

@[simp] theorem updateCluster_replies (c : Cluster) : (s.updateCluster c).link.replies = s.link.replies := by
  unfold State.updateCluster
  split
  · rfl
  · simp [notice_link]

@[simp] theorem setWanted_replies (r : Reasons) : (s.setWanted r).link.replies = s.link.replies := by
  unfold State.setWanted
  split
  · rfl
  · simp

@[simp] theorem raise_replies (r : CallReason) : (s.raise r).link.replies = s.link.replies := setWanted_replies s _
@[simp] theorem withdraw_replies (r : CallReason) : (s.withdraw r).link.replies = s.link.replies := setWanted_replies s _

@[simp] theorem judgeJournal_replies : s.judgeJournal.link.replies = s.link.replies := by
  unfold State.judgeJournal
  dsimp only
  split
  · rfl
  · split
    · simp [notice_link]
    · split <;> simp [notice_link]

@[simp] theorem enterFull_replies : s.enterFull.link.replies = s.link.replies := by
  unfold State.enterFull
  split <;> simp

@[simp] theorem judgeJournal_mark : s.judgeJournal.journal.mark = s.journal.mark := by rw [(judgeJournal_frame s).1]

@[simp] theorem enterFull_mark : s.enterFull.journal.mark = s.journal.mark := by
  unfold State.enterFull
  split <;> simp

variable {s}

theorem handOver_replies (a : Append) (h : s.journal.level ≠ .fault) : (s.handOver a).link.replies = s.link.replies := by
  simp [State.handOver, h]

theorem handOver_mark (a : Append) (h : s.journal.level ≠ .fault) : (s.handOver a).journal.mark = s.journal.mark := by
  simp [State.handOver, h]

end handOver

/-- Settles O48: the branches of both commands; a MARK handed over is queued, and one merged changes the queue alone. -/
theorem journalTakesItsCommands : Obligations.JournalTakesItsCommands := by
  unfold Obligations.JournalTakesItsCommands
  refine ⟨fun s tag n l hover hpart hstore hlabel => ⟨fun hwritten => ?locked, fun hunwritten hidle hlevel => ?written⟩,
    fun s tag q htakes hlevel => ⟨fun hrefused => ?range, fun hallowed => ?confirmed⟩⟩
  case locked => exact answer_arrive (c := .writeIdentity n l) hover (writeIdentity_of_written hpart hstore hlabel hwritten)
  case written =>
    obtain ⟨a, hstart⟩ := startIdentity_eq s.journal n l
    refine ⟨_, identityWriteOf s.journal n l,
      answer_arrive (c := .writeIdentity n l) hover (writeIdentity_of_unwritten hpart hstore hlabel hunwritten hidle hlevel), ?_⟩
    rw [finish_reply_replies, hstart]
    exact ⟨rfl, rfl, rfl, rfl, rfl, rfl, rfl, rfl, rfl, rfl⟩
  case range => exact answer_arrive_running (c := .confirmExport q) htakes rfl (confirmExport_of_refused hlevel hrefused)
  case confirmed =>
    refine ⟨_, answer_arrive_running (c := .confirmExport q) htakes rfl (confirmExport_of_allowed hlevel hallowed), ?_⟩
    rw [finish_reply_replies]
    simp only [finish_journal, reply_journal, finish_sale, reply_sale, queueMark_array]
    cases hwaiting : s.journal.waitingMark with
    | none =>
      obtain ⟨hqueue, -, -, hsale⟩ := handOver_frame s (.mark q) hlevel
      simp [queueMark_of_none hwaiting, handOver_mark _ hlevel, handOver_replies _ hlevel, hqueue, hsale, HostCommand.kind]
    | some v =>
      rw [queueMark_of_waiting (by simp [hwaiting])]
      simp [HostCommand.kind]

/-! ## READ JOURNAL (R177) -/

/-- R182: a command taken whose reply is formed later. -/
theorem answer_arrive_running_unanswered {s t : State} {tag : Byte} {c : HostCommand} {f : State → Taken} (h : s.takesCommands)
    (hperform : s.perform tag c = s.whenRunning f) (hf : f s = (t, none)) : answer (s.arrive tag c) = .next t.finish := by
  rw [arrive_taken s tag c h.2.1 h.2.2, State.takeCommand, hperform, whenRunning_running s f h.1, hf]
  rfl

section readJournal
variable {s : State} {tag : Byte} {q : Seq} {offset b : Nat} {r : FoundRecord}

theorem readJournal_of_reserved (h : s.link.reserved.isSome = true) : s.readJournal tag q offset = s.refuse .busy := by
  simp [State.readJournal, h]

theorem readJournal_of_no_block (hfree : s.link.reserved = none) (h : s.journal.blockOf q = none) :
    s.readJournal tag q offset = s.refuse .noRecord := by
  simp [State.readJournal, hfree, h]

theorem readJournal_of_no_record (hfree : s.link.reserved = none) (hblock : s.journal.blockOf q = some b)
    (h : findRecord s.journal.array b q = none) : s.readJournal tag q offset = s.refuse .noRecord := by
  simp [State.readJournal, hfree, hblock, h]

theorem readJournal_of_offset_out (hfree : s.link.reserved = none) (hblock : s.journal.blockOf q = some b)
    (hfound : findRecord s.journal.array b q = some r) (h : r.length ≤ offset) : s.readJournal tag q offset = s.refuse .range := by
  simp [State.readJournal, hfree, hblock, hfound, h]

/-- R177: the READ JOURNAL that a command starts. -/
def readerOf (tag : Byte) (q : Seq) (offset b : Nat) : JournalReader :=
  { tag := tag, seq := q, offset := offset, block := b, walk := 0, found := none }

/-- Every check of READ JOURNAL has passed: its first read is asked for, and its place is reserved. -/
theorem readJournal_of_offset_in (hfree : s.link.reserved = none) (hblock : s.journal.blockOf q = some b)
    (hfound : findRecord s.journal.array b q = some r) (h : offset < r.length) :
    ∃ a, s.readJournal tag q offset =
      ((s.setJournal { s.journal with reader := some (readerOf tag q offset b), arbiter := a }).setLink
        { s.link with reserved := some tag }, none) := by
  obtain ⟨a, ha⟩ := ask_eq { s.journal with reader := some (readerOf tag q offset b) } (.read .reader (b * blockSize) (headerRead 0))
  refine ⟨a, ?_⟩
  simp only [State.readJournal, hfree, hblock, hfound, if_neg (Nat.not_le.mpr h)]
  rw [← ha]
  rfl

end readJournal

/-! ### Its reads (R173, R177) -/

section reads
variable {s : State} {r : JournalReader} {a n : Nat}

/-- R173: the running operation is over, and the array is not granted yet. -/
def freed (s : State) : State := s.setJournal { s.journal with arbiter := { s.journal.arbiter with running := none } }

theorem readerRead_of_erased (hreader : s.journal.reader = some r) (h : s.journal.isErased r.block = true) :
    s.readerRead a n = s.answerReader r.tag (.refused .noRecord) := by
  simp [State.readerRead, hreader, h]

theorem readerRead_of_found {k : RecordKind} {length : Nat} (hreader : s.journal.reader = some r)
    (hthere : s.journal.isErased r.block = false) (hfound : r.found = some (k, length)) :
    s.readerRead a n =
      s.answerReader r.tag (.done (.record r.seq r.offset length k (Memory.readBytes s.journal.array a n))) := by
  simp [State.readerRead, hreader, hthere, hfound]

theorem readEnds_of_reader (h : s.journal.arbiter.running = some (.read .reader a n)) :
    s.readEnds = ((freed s).readerRead a n).setJournal ((freed s).readerRead a n).journal.arbitrate := by
  simp only [State.readEnds, h]
  rfl

/-- R177, R182: a read that brings READ JOURNAL its answer frees the reader and its place, and the reply takes the place. -/
theorem readDone_of_answer {tag : Byte} {body : ReplyBody} (hrunning : s.journal.arbiter.running = some (.read .reader a n))
    (hanswer : (freed s).readerRead a n = (freed s).answerReader tag body) :
    ∃ t, exec .readDone s = .next t ∧ t.journal.reader = none ∧ t.link.reserved = none ∧
      t.link.replies = s.link.replies ++ [{ kind := 0x17, tag := tag, body := body }] ∧ t.journal.array = s.journal.array ∧
      t.journal.queue = s.journal.queue ∧ t.sale = s.sale ∧ t.cluster = s.cluster := by
  have hends := readEnds_of_reader hrunning
  obtain ⟨b, hgrant⟩ := arbitrate_eq ((freed s).answerReader tag body).journal
  rw [hanswer, hgrant] at hends
  refine ⟨s.readEnds.finish, rfl, ?_⟩
  rw [finish_link, Link.pump_reserved, Link.pump_replies, finish_journal, finish_sale, finish_cluster, hends]
  exact ⟨rfl, rfl, rfl, rfl, rfl, rfl, rfl⟩

end reads

/-- Settles O51: the checks of READ JOURNAL in the order of its branches, what it leaves when taken, and its answers. -/
theorem readJournalReads : Obligations.ReadJournalReads := by
  unfold Obligations.ReadJournalReads
  refine ⟨fun s tag q offset htakes => ?command, fun s r k a n length hrunning hreader hfound hthere => ?found,
    fun s r a n hrunning hreader herased => ?erased⟩
  case command =>
    have refused {x : RefusalReason} (h : s.readJournal tag q offset = s.refuse x) :
        s.turnsAway (.readJournal tag q offset) 0x17 tag x :=
      answer_arrive_running (c := .readJournal q offset) htakes rfl h
    refine ⟨fun hreserved => refused (readJournal_of_reserved hreserved), fun hfree => ?_⟩
    refine ⟨fun hnone => refused (readJournal_of_no_block hfree hnone), fun b hblock => ?_⟩
    refine ⟨fun hnone => refused (readJournal_of_no_record hfree hblock hnone), fun r hfound => ?_⟩
    refine ⟨fun hout => refused (readJournal_of_offset_out hfree hblock hfound hout), fun hin => ?_⟩
    obtain ⟨a, htaken⟩ := readJournal_of_offset_in (tag := tag) hfree hblock hfound hin
    refine ⟨_, answer_arrive_running_unanswered (c := .readJournal q offset) htakes rfl htaken, ?_⟩
    rw [finish_link, Link.pump_reserved, Link.pump_replies]
    exact ⟨rfl, rfl, rfl, rfl, rfl, rfl, rfl⟩
  case found => exact readDone_of_answer hrunning (readerRead_of_found hreader hthere hfound)
  case erased => exact readDone_of_answer hrunning (readerRead_of_erased hreader herased)

/-! ## The scan's walks (R179) -/

section walks
variable {m : List Host.Cell}

theorem read_of_blockErased {b x : Nat} (h : Memory.blockErased m b = true) (hx : x / blockSize = b) : Memory.read m x = erasedByte := by
  induction m with
  | nil => rfl
  | cons c cs ih =>
    simp only [Memory.blockErased, List.any_cons, Bool.not_or, Bool.and_eq_true, Bool.not_eq_true', beq_eq_false_iff_ne] at h
    have hne : c.1 ≠ x := fun hc => h.1 (hc ▸ hx)
    rw [Memory.read, if_neg hne]
    exact ih (by simp [Memory.blockErased, h.2])

/-- R179: an ERASED block begins with no header. -/
theorem headerAt_of_blockErased {b : Nat} (h : Memory.blockErased m b = true) (limit : Nat) : headerAt m (b * blockSize) limit = none := by
  have hread := read_of_blockErased h (Nat.mul_div_cancel b (by decide : 0 < blockSize))
  unfold headerAt
  rw [hread]
  split
  · rfl
  · rfl

/-- R179: a header met at an address lies there, with 8 bytes or more, within the limit. -/
theorem headerAt_bounds {a limit : Nat} {r : FoundRecord} (h : headerAt m a limit = some r) :
    r.addr = a ∧ 8 ≤ r.length ∧ a + r.length ≤ limit := by
  unfold headerAt at h
  split at h
  · cases h
  · split at h
    · cases h
    · split at h
      · cases h
      · dsimp only at h
        split at h
        · next hlength =>
          cases h
          exact ⟨rfl, hlength.1, hlength.2.2⟩
        · cases h

theorem walkFrom_records_of_no_header {fuel a limit : Nat} (h : headerAt m a limit = none) : (walkFrom m fuel a limit).records = [] := by
  cases fuel with
  | zero => rfl
  | succ fuel => simp [walkFrom, h]

/-- R179: the records of a walk lie between its start and its limit. -/
theorem addr_of_mem_walkFrom {limit : Nat} {r : FoundRecord} :
    ∀ (fuel a : Nat), r ∈ (walkFrom m fuel a limit).records → a ≤ r.addr ∧ r.addr < limit
  | 0, _, h => by simp [walkFrom] at h
  | fuel + 1, a, h => by
    unfold walkFrom at h
    split at h
    · simp at h
    · next x hx =>
      obtain ⟨haddr, hlength, hlimit⟩ := headerAt_bounds hx
      split at h
      · simp at h
      · split at h
        · obtain rfl | hrest := List.mem_cons.mp h
          · omega
          · have := addr_of_mem_walkFrom fuel (a + x.length) hrest
            omega
        · simp at h

theorem block_of_mem_walkBlock {b : Nat} {r : FoundRecord} (h : r ∈ (walkBlock m b).records) : r.addr / blockSize = b := by
  obtain ⟨hlo, hhi⟩ := addr_of_mem_walkFrom _ _ h
  exact Nat.div_eq_of_lt_le hlo hhi

end walks

/-! ## The ring as the scan finds it (R179) -/

section ring
variable (m : List Host.Cell)

/-- R179: a ring block with its state and its walk, unless it is ERASED. -/
def scanEntry (b : Nat) : Option (Nat × BlockState × Walk) := (scanBlock m b).1.map (fun st => (b, st, (scanBlock m b).2))

theorem scanRing_eq : scanRing m = ringBlocks.filterMap (scanEntry m) := by
  unfold scanRing
  congr 1
  funext b
  unfold scanEntry
  rcases scanBlock m b with ⟨_ | st, w⟩ <;> rfl

variable {m}
variable {b : Nat}

theorem scanBlock_of_erased (h : Memory.blockErased m b = true) : (scanBlock m b).1 = none := by
  simp [scanBlock, h]

theorem scanBlock_of_dirty (hwritten : Memory.blockErased m b = false) (h : headerAt m (b * blockSize) ((b + 1) * blockSize) = none) :
    scanBlock m b = (some .dirty, { records := [], torn := false, openAt := none }) := by
  simp [scanBlock, hwritten, h]

theorem scanBlock_of_header {r : FoundRecord} (h : headerAt m (b * blockSize) ((b + 1) * blockSize) = some r) :
    scanBlock m b = (some (.written (seqRange (walkBlock m b).records)), walkBlock m b) := by
  have hwritten : Memory.blockErased m b = false := by
    cases herased : Memory.blockErased m b with
    | false => rfl
    | true => cases (headerAt_of_blockErased herased _).symm.trans h
  simp [scanBlock, hwritten, h]

/-- R179: the state of a ring block, by its bytes and by its first header. -/
theorem scanBlock_state (m : List Host.Cell) (b : Nat) :
    (scanBlock m b).1 =
      if Memory.blockErased m b then none
      else if headerAt m (b * 4096) ((b + 1) * 4096) = none then some .dirty
      else some (.written (seqRange (walkBlock m b).records)) := by
  split
  · next herased => exact scanBlock_of_erased herased
  · next hwritten =>
    split
    · next hheader => rw [scanBlock_of_dirty (Bool.eq_false_iff.mpr hwritten) hheader]
    · next hheader =>
      obtain ⟨r, hr⟩ := Option.ne_none_iff_exists'.mp hheader
      rw [scanBlock_of_header hr]

theorem walkBlock_records_of_no_header (h : headerAt m (b * blockSize) ((b + 1) * blockSize) = none) : (walkBlock m b).records = [] :=
  walkFrom_records_of_no_header h

/-- The entry of a block holds its walk's records, and a block without an entry has none. -/
theorem scanEntry_records (b : Nat) :
    ((scanEntry m b).map (fun x => x.2.2.records)).getD [] = (walkBlock m b).records := by
  unfold scanEntry
  cases herased : Memory.blockErased m b with
  | true => simp [scanBlock_of_erased herased, walkBlock_records_of_no_header (headerAt_of_blockErased herased _)]
  | false =>
    cases hheader : headerAt m (b * blockSize) ((b + 1) * blockSize) with
    | none => simp [scanBlock_of_dirty herased hheader, walkBlock_records_of_no_header hheader]
    | some r => simp [scanBlock_of_header hheader]

/-- The records of the ring are those of its entries, block by block. -/
theorem scanRing_records : (scanRing m).flatMap (fun x => x.2.2.records) = ringRecords m := by
  rw [scanRing_eq, ringRecords]
  induction ringBlocks with
  | nil => rfl
  | cons b bs ih =>
    rw [List.flatMap_cons, ← ih, ← scanEntry_records b, List.filterMap_cons]
    cases scanEntry m b <;> simp

theorem number_of_scanEntry {x : Nat × BlockState × Walk} (h : scanEntry m b = some x) : x.1 = b := by
  obtain ⟨_, _, rfl⟩ := Option.map_eq_some_iff.mp h
  rfl

theorem find_filterMap_scanEntry (b : Nat) (bs : List Nat) :
    (bs.filterMap (scanEntry m)).find? (fun x => x.1 == b) = if b ∈ bs then scanEntry m b else none := by
  induction bs with
  | nil => rfl
  | cons c bs ih =>
    rw [List.filterMap_cons]
    by_cases hc : c = b
    · subst hc
      cases h : scanEntry m c with
      | none => simp [ih, h]
      | some x => simp [number_of_scanEntry h]
    · cases h : scanEntry m c with
      | none => simp [ih, Ne.symm hc]
      | some x => simp [number_of_scanEntry h, hc, ih, Ne.symm hc]

/-- A ring block is found in the ring by its number. -/
theorem scanRing_find (hb : b ∈ ringBlocks) : (scanRing m).find? (fun x => x.1 == b) = scanEntry m b := by
  rw [scanRing_eq, find_filterMap_scanEntry, if_pos hb]

theorem mem_ringBlocks : b ∈ ringBlocks ↔ 1 ≤ b ∧ b ≤ 1023 := by
  simp only [ringBlocks, List.mem_map, List.mem_range]
  exact ⟨fun ⟨x, hx, hb⟩ => by omega, fun h => ⟨b - 1, by omega, by omega⟩⟩

/-- R179: what is left of the block of a committed record is what its walk finds left. -/
theorem restOf_scanRing {r : FoundRecord} (hr : r ∈ ringRecords m) : restOf (scanRing m) (r.addr / 4096) = openRest m (r.addr / 4096) := by
  obtain ⟨b, hb, hwalk⟩ := List.mem_flatMap.mp hr
  have hblock : r.addr / 4096 = b := block_of_mem_walkBlock hwalk
  rw [hblock, restOf, scanRing_find hb]
  cases hheader : headerAt m (b * blockSize) ((b + 1) * blockSize) with
  | none => simp [walkBlock_records_of_no_header hheader] at hwalk
  | some x =>
    simp only [scanEntry, scanBlock_of_header hheader, Option.map_some]
    rfl

/-- An array with nothing written has no block in the ring. -/
theorem scanRing_nil : scanRing [] = [] := by
  have herased (b : Nat) : scanEntry [] b = none := by simp [scanEntry, scanBlock_of_erased (m := []) rfl]
  simp [scanRing_eq, herased]

end ring

/-! ## The highest record, and the last receipt number (R179) -/

section highest
variable {m : List Host.Cell}

theorem laterRecord_eq (a : Option FoundRecord) (b : FoundRecord) : laterRecord a b = a ∨ laterRecord a b = some b := by
  unfold laterRecord
  split
  · exact .inr rfl
  · split
    · exact .inr rfl
    · exact .inl rfl

theorem mem_of_foldl_laterRecord {r : FoundRecord} :
    ∀ (rs : List FoundRecord) (a : Option FoundRecord), rs.foldl laterRecord a = some r → a = some r ∨ r ∈ rs
  | [], _, h => .inl h
  | x :: xs, a, h => by
    obtain hacc | htail := mem_of_foldl_laterRecord xs (laterRecord a x) h
    · obtain heq | heq := laterRecord_eq a x
      · exact .inl (heq ▸ hacc)
      · exact .inr (Option.some.inj (heq.symm.trans hacc) ▸ List.mem_cons_self)
    · exact .inr (List.mem_cons_of_mem x htail)

/-- The highest record of some is one of them. -/
theorem highestRecord_mem {rs : List FoundRecord} {r : FoundRecord} (h : highestRecord rs = some r) : r ∈ rs :=
  (mem_of_foldl_laterRecord rs none h).resolve_left (by simp)

theorem scanReceipt_of_sale {sale : FoundRecord} {mark : Option FoundRecord}
    (h : ∀ q, mark = some q → seqHigher q.seq sale.seq = false) :
    scanReceipt m (some sale) mark = natOf (Memory.readBytes m (sale.addr + 8) 3) := by
  cases mark with
  | none => rfl
  | some q => simp [scanReceipt, h q rfl]

theorem scanReceipt_of_mark {sale : Option FoundRecord} {mark : FoundRecord}
    (h : ∀ r, sale = some r → seqHigher mark.seq r.seq = true) :
    scanReceipt m sale (some mark) = natOf (Memory.readBytes m (mark.addr + 12) 3) := by
  cases sale with
  | none => rfl
  | some r => simp [scanReceipt, h r rfl]

end highest

/-! ## The level (R176) -/

/-- R176: the available count depends on the block table, the mark and the write block. -/
theorem available_congr {j k : Journal} (hblocks : k.blocks = j.blocks) (hmark : k.mark = j.mark) (hwrite : k.writeBlock = j.writeBlock) :
    k.available = j.available := by
  have above (b : Nat) : k.holdsAbove b = j.holdsAbove b := by simp [Journal.holdsAbove, Journal.blockState, hblocks, hmark]
  have count (fuel : Nat) : ∀ b, k.countFree fuel b = j.countFree fuel b := by
    induction fuel with
    | zero => exact fun _ => rfl
    | succ fuel ih => simp [Journal.countFree, above, ih]
  rw [Journal.available, Journal.available, hwrite, count]

/-- R176: from NORMAL, with no append that waits, the available count alone decides. -/
theorem judgedLevel_of_idle {j : Journal} (hlevel : j.level = .normal) (hqueue : j.queue = []) (sale : Sale) :
    j.judgedLevel sale = if j.available < 64 then .nearFull else .normal := by
  simp [Journal.judgedLevel, Journal.stuck, hlevel, hqueue]

/-! ## The journal's state as the scan sets it (R168, R179) -/

section scanned
variable (j : Journal)

theorem scanned_of_none (h : highestRecord (ringRecords j.array) = none) :
    j.scanned.lastSeq = 0 ∧ j.scanned.writeBlock = 1023 ∧ j.scanned.rest = 0 := by
  simp [Journal.scanned, scanRing_records, h]

theorem scanned_of_highest {r : FoundRecord} (h : highestRecord (ringRecords j.array) = some r) :
    j.scanned.lastSeq = r.seq ∧ j.scanned.writeBlock = r.addr / 4096 ∧ j.scanned.rest = openRest j.array (r.addr / 4096) := by
  have hrest := restOf_scanRing (highestRecord_mem h)
  simp [Journal.scanned, scanRing_records, h, blockSize, hrest]

/-- R179: the highest SALE or VOID record of the ring. -/
def highestSale (m : List Host.Cell) : Option FoundRecord := highestRecord ((ringRecords m).filter (fun r => r.kind.isSale))

/-- R179: the highest MARK of the ring. -/
def highestMark (m : List Host.Cell) : Option FoundRecord := highestRecord ((ringRecords m).filter (fun r => r.kind == .mark))

theorem scanned_lastSale : j.scanned.lastSale = (highestSale j.array).map (fun r => { seq := r.seq, addr := r.addr }) := by
  simp [Journal.scanned, scanRing_records, highestSale]

theorem scanned_lastReceipt : j.scanned.lastReceipt = scanReceipt j.array (highestSale j.array) (highestMark j.array) := by
  simp [Journal.scanned, scanRing_records, highestSale, highestMark]

theorem scanned_mark_of_none (h : highestMark j.array = none) : j.scanned.mark = 0 := by
  unfold highestMark at h
  simp [Journal.scanned, scanRing_records, h]

theorem scanned_mark_of_highest {r : FoundRecord} (h : highestMark j.array = some r) :
    j.scanned.mark = BitVec.ofNat 32 (natOf (Memory.readBytes j.array (r.addr + 8) 4)) := by
  unfold highestMark at h
  simp [Journal.scanned, scanRing_records, h]

theorem scanned_blocks : j.scanned.blocks = (scanRing j.array).map (fun x => (x.1, x.2.1)) := by simp only [Journal.scanned]

/-- R179: the block table holds of each ring block what the scan found of it. -/
theorem scanned_blockState {b : Nat} (hb : b ∈ ringBlocks) : j.scanned.blockState b = (scanBlock j.array b).1 := by
  have hfind := scanRing_find (m := j.array) hb
  unfold Journal.blockState
  rw [scanned_blocks, List.find?_map]
  simp [Function.comp_def, hfind, scanEntry]

/-- R168, R179: an array with nothing written. -/
theorem scanned_of_unwritten (h : j.array = []) :
    j.scanned.identity = .blank ∧ j.scanned.lastSeq = 0 ∧ j.scanned.lastReceipt = 0 ∧ j.scanned.mark = 0 ∧ j.scanned.blocks = [] ∧
    j.scanned.writeBlock = 1023 ∧ j.scanned.rest = 0 := by
  simp [Journal.scanned, h, scanRing_nil, highestRecord, scanReceipt, readIdentity, Memory.blockErased]

end scanned

/-! ## The end of the scan (R179, R184) -/

section scanEnds
variable (s : State)

theorem dropScan_eq (j : Journal) : ∃ a, j.dropScan = { j with arbiter := a } := arbitrate_eq _

/-- R176, R179: the end of the scan judges the level on the state that the array gives, with the scan's reads out of the arbiter. -/
theorem scanEnds_journal_of_dropScan :
    s.scanEnds.journal =
      { s.journal.scanned.dropScan with
        blocked := s.journal.scanned.dropScan.targetBlocked, level := s.journal.scanned.dropScan.judgedLevel s.sale } := by
  simp only [State.scanEnds, notice_journal, setLink_journal, setJournal_journal]

/-- R179: beside the state that the array gives, the end of the scan writes the arbiter, blocked erase-ahead and the level. -/
theorem scanEnds_journal : ∃ a b v, s.scanEnds.journal = { s.journal.scanned with arbiter := a, blocked := b, level := v } := by
  obtain ⟨a, ha⟩ := dropScan_eq s.journal.scanned
  exact ⟨a, _, _, by rw [scanEnds_journal_of_dropScan, ha]⟩

/-- R176: from NORMAL, with no append that waits, the available count after the scan decides the level. -/
theorem scanEnds_level (hlevel : s.journal.level = .normal) (hqueue : s.journal.queue = []) :
    s.scanEnds.journal.level = if s.scanEnds.journal.available < 64 then .nearFull else .normal := by
  obtain ⟨a, ha⟩ := dropScan_eq s.journal.scanned
  have hjudged := judgedLevel_of_idle (j := s.journal.scanned.dropScan) (by rw [ha]; exact hlevel) (by rw [ha]; exact hqueue) s.sale
  have hcount : s.scanEnds.journal.available = s.journal.scanned.dropScan.available := by
    rw [scanEnds_journal_of_dropScan]
    exact available_congr rfl rfl rfl
  rw [hcount, ← hjudged, scanEnds_journal_of_dropScan]

theorem scanEnds_blockState {b : Nat} (hb : b ∈ ringBlocks) : s.scanEnds.journal.blockState b = (scanBlock s.journal.array b).1 := by
  obtain ⟨_, _, _, hjournal⟩ := scanEnds_journal s
  have hblocks : s.scanEnds.journal.blocks = s.journal.scanned.blocks := by rw [hjournal]
  rw [← scanned_blockState s.journal hb, Journal.blockState, hblocks, Journal.blockState]

@[simp] theorem scanEnds_part : s.scanEnds.link.part = .unconfigured := by simp [State.scanEnds, notice_link]

@[simp] theorem scanEnds_replies : s.scanEnds.link.replies = s.link.replies := by simp [State.scanEnds, notice_link]

theorem exec_scanEnd_of_starting {s : State} (h : s.link.part = .starting) : exec .scanEnd s = .next s.scanEnds.finish := by
  have hfinishes : s.scanFinishes = s.scanEnds := by simp only [State.scanFinishes, h]
  rw [← hfinishes]
  rfl

end scanEnds

/-- Settles O52: the state that the array gives, field by field, and the level judged on it. -/
theorem scanEndsTheStart : Obligations.ScanEndsTheStart := by
  unfold Obligations.ScanEndsTheStart
  intro s hpart
  refine ⟨_, exec_scanEnd_of_starting hpart, ?_⟩
  have hlevel := scanEnds_level s
  have hblocks (b : Nat) := scanEnds_blockState s (b := b)
  obtain ⟨a, blocked, level, hjournal⟩ := scanEnds_journal s
  rw [finish_link, Link.pump_part, Link.pump_replies, scanEnds_part, scanEnds_replies, finish_journal, finish_sale, finish_cluster]
  rw [hjournal] at hlevel hblocks ⊢
  dsimp only
  refine ⟨rfl, rfl, rfl, rfl, rfl, rfl, rfl, ⟨scanned_of_none _, fun r => scanned_of_highest _, scanned_lastSale _, scanned_mark_of_none _,
    fun r => scanned_mark_of_highest _, ?noReceipt, ?ofSale, ?ofMark, ?blocks⟩, hlevel, scanned_of_unwritten _⟩
  case noReceipt =>
    intro hsale hmark
    rw [scanned_lastReceipt, highestSale, hsale, highestMark, hmark]
    rfl
  case ofSale =>
    intro r hsale hmark
    rw [scanned_lastReceipt, highestSale, hsale]
    exact scanReceipt_of_sale hmark
  case ofMark =>
    intro q hmark hsale
    rw [scanned_lastReceipt, highestMark, hmark]
    exact scanReceipt_of_mark hsale
  case blocks =>
    intro b hlo hhi
    rw [hblocks b (mem_ringBlocks.mpr ⟨hlo, hhi⟩), scanBlock_state]

end Sys2Proof.Machine.JournalStore
end

section
/-! SUPPORT. The lane link (Chapter 11) and the hardware resets: the receive assembler, the hand-over of a message, the transmitter, and the commands
that the part state decides, each branch of the model stated once, and the statements O3 to O11 settled from them. -/

namespace Sys2Proof.Machine.LaneLink

open ScaleFrontEnd

/-! ## The rows of the lane link, and a command's row -/

section rows
variable (s : State)

theorem exec_messageReceived (c : LinkChar) : exec (.messageReceived c) s = .next (s.messageCompletes c).finish := rfl

theorem exec_characterReceived (c : LinkChar) : exec (.characterReceived c) s = .next (s.characterArrives c).finish := rfl

theorem exec_linkGapTimer : exec .linkGapTimer s = .next s.gapExpiresInMessage.finish := rfl

theorem exec_messageHandover : exec .messageHandover s = .next s.handOverHeld.finish := rfl

theorem exec_messageSent : exec .messageSent s = .next (s.setLink s.link.sent).finish := rfl

/-- R182: the row of a command is the arrival of its message. -/
theorem exec_rowOf (tag : Byte) (c : HostCommand) : exec (rowOf tag c) s = answer (s.arrive tag c) := by
  cases c <;> rfl

theorem exec_rowOf_of_handsOver {s : State} (h : s.handsOver) (tag : Byte) (c : HostCommand) :
    exec (rowOf tag c) s = .next (s.takeCommand tag c).finish := by
  rw [exec_rowOf, arrive_taken s tag c h.1 h.2]
  rfl

end rows

@[simp] theorem setAssembler_assembler (s : State) (a : Assembler) : (s.setAssembler a).link.assembler = a := rfl

@[simp] theorem setAssembler_places (s : State) (a : Assembler) : (s.setAssembler a).link.places = s.link.places := rfl

/-- R182: with the assembler reset and a place free, a command is handed over at once. -/
theorem handsOver_setAssembler_reset {s : State} (hplace : s.link.places < replyPlaces) : (s.setAssembler .reset).handsOver :=
  ⟨rfl, hplace⟩

/-! ## The body of a message (R182, R188) -/

section body
variable {s : State} {body : List Byte}

theorem takeBody_of_command {tag : Byte} {c : HostCommand} (h : readBody body = .command tag c) :
    s.takeBody body = s.takeCommand tag c := by
  simp only [State.takeBody, h]

theorem takeBody_of_refused {k tag : Byte} {r : RefusalReason} (h : readBody body = .refused k tag r) :
    s.takeBody body = s.reply k tag (.refused r) := by
  simp only [State.takeBody, h]

theorem acceptMessage_of_free (h : s.link.places < replyPlaces) : s.acceptMessage body = (s.setAssembler .reset).takeBody body :=
  if_pos h

theorem acceptMessage_of_full (h : replyPlaces ≤ s.link.places) :
    s.acceptMessage body = s.setAssembler (s.link.assembler.holding body) :=
  if_neg (Nat.not_lt.mpr h)

theorem readBody_of_no_command {k : Byte} (tag : Byte) (p : List Byte) (h : k.toNat = 0 ∨ 27 < k.toNat) :
    readBody (k :: tag :: p) = .refused k tag .unknown :=
  if_neg (by omega)

/-- R182: a KIND that names a command needs a payload of its length. -/
theorem readBody_of_wrong_form {k : Byte} (tag : Byte) {p : List Byte} (hlo : 1 ≤ k.toNat) (hhi : k.toNat ≤ 27)
    (h : decodePayload k.toNat p = none) : readBody (k :: tag :: p) = .refused k tag .range := by
  simp only [readBody, if_pos (And.intro hlo hhi), h]

end body

/-! ## A complete message is judged (R180, R181) -/

section complete
variable {s : State} {c : LinkChar}

theorem see_of_good (e : LinkErrors) (h : LinkChar.good c = true) : LinkErrors.see e c = e := by
  obtain ⟨hparity, hstop⟩ := Bool.and_eq_true_iff.mp h
  simp only [LinkErrors.see, hparity, hstop]

/-- R180, R181: the errors that the model sees are those that the rules allow, whichever of two faults is reported (log entry 12). -/
theorem sees_see (e : LinkErrors) (c : LinkChar) : e.sees c (LinkErrors.see e c) := by
  unfold LinkErrors.sees LinkErrors.see
  cases LinkChar.parityGood c <;> cases c.stop
  case false.false => cases Config.parityBeforeFraming <;> simp
  all_goals simp

theorem messageCompletes_of_check (hheld : s.link.assembler.held = none) (hstate : s.link.assembler.state = .check) :
    s.messageCompletes c = s.completeMessage c := by
  simp only [State.messageCompletes, hheld, hstate]

theorem completeMessage_of_errors (hgood : LinkChar.good c = true) (herrors : s.link.assembler.errors ≠ .clear) :
    s.completeMessage c = s.discardMessage s.link.assembler.errors (s.link.assembler.buffer.length + 2) := by
  simp [State.completeMessage, see_of_good _ hgood, herrors]

theorem completeMessage_of_wrong_check (hgood : LinkChar.good c = true) (herrors : s.link.assembler.errors = .clear)
    (hcheck : c.data ≠ checkByte (s.link.assembler.buffer.drop 1)) :
    s.completeMessage c =
      s.discardMessage { LinkErrors.clear with check := true } (s.link.assembler.buffer.length + 2) := by
  simp only [State.completeMessage, see_of_good _ hgood, herrors, ne_eq, not_true_eq_false, if_false]
  exact if_pos hcheck

theorem completeMessage_of_good (hgood : LinkChar.good c = true) (herrors : s.link.assembler.errors = .clear)
    (hcheck : c.data = checkByte (s.link.assembler.buffer.drop 1)) :
    s.completeMessage c = s.acceptMessage (s.link.assembler.buffer.drop 1) := by
  simp only [State.completeMessage, see_of_good _ hgood, herrors, ne_eq, not_true_eq_false, if_false]
  exact if_neg (not_not_intro hcheck)

/-- R181: what the row of a good message is. -/
theorem exec_messageReceived_of_good (hheld : s.link.assembler.held = none) (hstate : s.link.assembler.state = .check)
    (herrors : s.link.assembler.errors = .clear) (hgood : LinkChar.good c = true)
    (hcheck : c.data = checkByte (s.link.assembler.buffer.drop 1)) :
    exec (.messageReceived c) s = .next (s.acceptMessage (s.link.assembler.buffer.drop 1)).finish := by
  rw [exec_messageReceived, messageCompletes_of_check hheld hstate, completeMessage_of_good hgood herrors hcheck]

theorem gapExpiresInMessage_of_running {g : Nat} (h : s.link.assembler.gap = some g) :
    s.gapExpiresInMessage = s.discardMessage { s.link.assembler.errors with gap := true } (s.link.assembler.buffer.length + 1) := by
  simp only [State.gapExpiresInMessage, h]

end complete

/-- Settles O5: a good message is accepted, and its body read says which reply or row follows. -/
theorem goodMessageIsHandedOver : Obligations.GoodMessageIsHandedOver := by
  unfold Obligations.GoodMessageIsHandedOver
  refine ⟨fun s c tag cmd hheld hstate herrors hgood hcheck hread => ⟨fun hfree => ?taken, fun hfull => ?held⟩,
    fun k tag p hkind => readBody_of_no_command tag p hkind, fun k => rfl, fun k tag p => readBody_of_wrong_form tag,
    fun s c k tag r hheld hstate herrors hgood hcheck hfree hread => ?refused⟩
  case taken =>
    rw [exec_messageReceived_of_good hheld hstate herrors hgood hcheck, acceptMessage_of_free hfree, takeBody_of_command hread,
      exec_rowOf_of_handsOver (handsOver_setAssembler_reset hfree)]
  case held => rw [exec_messageReceived_of_good hheld hstate herrors hgood hcheck, acceptMessage_of_full hfull]
  case refused =>
    rw [exec_messageReceived_of_good hheld hstate herrors hgood hcheck, acceptMessage_of_free hfree, takeBody_of_refused hread]

/-- Settles O6: the gap timer's end and the judging of the CHECK character both discard the message. -/
theorem badMessageIsDiscarded : Obligations.BadMessageIsDiscarded := by
  unfold Obligations.BadMessageIsDiscarded
  refine ⟨fun s g hgap => ?gap, fun s c hheld hstate hgood => ⟨fun herrors => ?errors, fun herrors hcheck => ?check⟩⟩
  case gap =>
    rw [exec_linkGapTimer, gapExpiresInMessage_of_running hgap]
    rfl
  case errors =>
    rw [exec_messageReceived, messageCompletes_of_check hheld hstate, completeMessage_of_errors hgood herrors]
    rfl
  case check =>
    rw [exec_messageReceived, messageCompletes_of_check hheld hstate, completeMessage_of_wrong_check hgood herrors hcheck]
    rfl

/-! ## The held message (R182) -/

section held
variable {s : State}

/-- R182: the assembler without its held message, and the OVERRUN notice where characters were dropped. -/
def released (s : State) : State :=
  if 0 < s.link.assembler.dropped then
    (s.setAssembler .reset).notice (.linkError { LinkErrors.clear with overrun := true } s.link.assembler.dropped)
  else s.setAssembler .reset

theorem released_handsOver (hplace : s.link.places < replyPlaces) : (released s).handsOver := by
  unfold released
  split
  · exact ⟨by simp [notice_link, Assembler.reset], by simpa [notice_link] using hplace⟩
  · exact handsOver_setAssembler_reset hplace

theorem handOverHeld_of_free {body : List Byte} (hheld : s.link.assembler.held = some body) (hplace : s.link.places < replyPlaces) :
    s.handOverHeld = (released s).takeBody body := by
  simp only [State.handOverHeld, hheld, if_pos hplace]
  rfl

theorem handOverHeld_of_none (h : s.link.assembler.held = none) : s.handOverHeld = s := by
  simp only [State.handOverHeld, h]

theorem handOverHeld_of_full (h : replyPlaces ≤ s.link.places) : s.handOverHeld = s := by
  unfold State.handOverHeld
  dsimp only
  split
  · rfl
  · exact if_neg (Nat.not_lt.mpr h)

end held

/-- Settles O7: the message released is read as one that has just arrived. -/
theorem heldMessageIsHandedOver : Obligations.HeldMessageIsHandedOver := by
  unfold Obligations.HeldMessageIsHandedOver
  refine ⟨fun s body hheld hplace => ⟨fun tag cmd hread => ?command, fun k tag r hread => ?refused⟩, fun s h => ?nothing⟩
  case command =>
    have hexec : exec .messageHandover s = .next ((released s).takeCommand tag cmd).finish := by
      rw [exec_messageHandover, handOverHeld_of_free hheld hplace, takeBody_of_command hread]
    exact ⟨hexec, hexec.trans (exec_rowOf_of_handsOver (released_handsOver hplace) tag cmd).symm⟩
  case refused =>
    rw [exec_messageHandover, handOverHeld_of_free hheld hplace, takeBody_of_refused hread]
    rfl
  case nothing =>
    obtain hnone | hfull := h
    · rw [exec_messageHandover, handOverHeld_of_none hnone]
    · rw [exec_messageHandover, handOverHeld_of_full hfull]

/-! ## The transmitter (R180, R182, R183) -/

section transmitter
variable {s : State}

theorem finish_of_sending {m : Sending} (h : s.link.sending = some m) : s.finish = s := by
  simp only [State.finish, Link.pump, h]
  rfl

theorem finish_of_reply {r : Reply} {rs : List Reply} (hfree : s.link.sending = none) (hreplies : s.link.replies = r :: rs) :
    s.finish = s.setLink { s.link with sending := some { chars := messageChars r.body', reply := true } } := by
  simp only [State.finish, Link.pump, hfree, hreplies]

theorem finish_of_notice {n : Notice} {ns : List Notice} (hfree : s.link.sending = none) (hreplies : s.link.replies = [])
    (hnotices : s.link.notices = n :: ns) :
    s.finish =
      s.setLink { s.link with sending := some { chars := messageChars (n.body s.card.held), reply := false }, notices := ns } := by
  simp only [State.finish, Link.pump, hfree, hreplies, hnotices]

theorem finish_of_nothing (hfree : s.link.sending = none) (hreplies : s.link.replies = []) (hnotices : s.link.notices = []) :
    s.finish = s := by
  simp only [State.finish, Link.pump, hfree, hreplies, hnotices]
  rfl

theorem sent_of_sending {m : Sending} (h : s.link.sending = some m) :
    s.link.sent = { s.link with sending := none, replies := if m.reply then s.link.replies.tail else s.link.replies } := by
  simp only [Link.sent, h]

end transmitter

/-- R180: the parity bit of a character sent makes the count of 1s odd. -/
theorem sentCharacter_parity_odd (b : Byte) :
    (((bitsOf 8 b.toNat).filter id).length + (sentCharacter b).parity.toNat) % 2 = 1 := by
  unfold sentCharacter
  generalize ((bitsOf 8 b.toNat).filter id).length = n
  obtain h | h := Nat.mod_two_eq_zero_or_one n
  · simp only [h, beq_self_eq_true, Bool.toNat_true]
    omega
  · simp [h]

/-- R180: what the part sends, a receiver takes for good. -/
theorem sentCharacter_good (b : Byte) : LinkChar.good (sentCharacter b) = true := by
  unfold LinkChar.good LinkChar.parityGood sentCharacter
  generalize ((bitsOf 8 b.toNat).filter id).length = n
  obtain h | h := Nat.mod_two_eq_zero_or_one n <;> simp [h]

/-- Settles O8: the four branches of the choice, and the form of a character. -/
theorem transmitterChoosesNext : Obligations.TransmitterChoosesNext := by
  unfold Obligations.TransmitterChoosesNext
  refine ⟨fun s m hsending => ?sent, fun s m => finish_of_sending, fun s r rs => finish_of_reply, fun s n ns => finish_of_notice,
    fun s => finish_of_nothing, fun b => ⟨rfl, rfl, sentCharacter_parity_odd b, rfl, sentCharacter_good b⟩⟩
  rw [exec_messageSent, sent_of_sending hsending]
  rfl

/-! ## The receive assembler (R180 to R182) -/

section assembler
variable {s : State} {c : LinkChar}

theorem characterArrives_of_held {b : List Byte} (h : s.link.assembler.held = some b) :
    s.characterArrives c = s.setAssembler { s.link.assembler with dropped := s.link.assembler.dropped + 1 } := by
  simp only [State.characterArrives, h]

theorem characterArrives_of_hunt (hheld : s.link.assembler.held = none) (hstate : s.link.assembler.state = .hunt) :
    s.characterArrives c = s.huntCharacter c := by
  simp only [State.characterArrives, hheld, hstate]

theorem characterArrives_of_length (hheld : s.link.assembler.held = none) (hstate : s.link.assembler.state = .length) :
    s.characterArrives c = s.lengthCharacter c := by
  simp only [State.characterArrives, hheld, hstate]

theorem characterArrives_of_body (hheld : s.link.assembler.held = none) (hstate : s.link.assembler.state = .body) :
    s.characterArrives c = s.bodyCharacter c := by
  simp only [State.characterArrives, hheld, hstate]

theorem characterArrives_of_check (hheld : s.link.assembler.held = none) (hstate : s.link.assembler.state = .check) :
    s.characterArrives c = s.messageCompletes c := by
  simp only [State.characterArrives, State.messageCompletes, hheld, hstate]

theorem huntCharacter_of_sync (hdata : c.data = 0x7E) (hgood : LinkChar.good c = true) :
    s.huntCharacter c =
      s.setAssembler { s.link.assembler with state := .length, buffer := [], due := 0, errors := .clear, gap := some 0 } :=
  if_pos ⟨hdata, hgood⟩

theorem huntCharacter_of_other (h : c.data ≠ 0x7E ∨ LinkChar.good c = false) : s.huntCharacter c = s := by
  refine if_neg ?_
  rintro ⟨hdata, hgood⟩
  obtain h | h := h
  · exact h hdata
  · simp [h] at hgood

theorem lengthCharacter_of_zero (h : c.data = 0) :
    s.lengthCharacter c = s.discardMessage { LinkErrors.see s.link.assembler.errors c with length := true } 2 :=
  if_pos h

theorem lengthCharacter_of_nonzero (h : c.data ≠ 0) :
    s.lengthCharacter c =
      s.setAssembler { s.link.assembler with state := .body, buffer := [c.data], due := c.data.toNat,
                                             errors := LinkErrors.see s.link.assembler.errors c, gap := some 0 } :=
  if_neg h

end assembler

/-- Settles O9: one case for each state of the assembler. -/
theorem characterMovesTheAssembler : Obligations.CharacterMovesTheAssembler := by
  unfold Obligations.CharacterMovesTheAssembler
  intro s c
  rw [exec_characterReceived]
  refine ⟨fun b hheld => by rw [characterArrives_of_held hheld], fun hheld => ⟨fun hstate hdata hgood => ?sync, fun hstate hother => ?other,
    fun hstate hzero => ⟨_, sees_see _ c, ?empty⟩, fun hstate hnonzero => ⟨_, sees_see _ c, ?length⟩,
    fun hstate => ⟨_, sees_see _ c, ?body⟩, fun hstate => ?check⟩⟩
  case sync => rw [characterArrives_of_hunt hheld hstate, huntCharacter_of_sync hdata hgood]
  case other => rw [characterArrives_of_hunt hheld hstate, huntCharacter_of_other hother]
  case empty =>
    rw [characterArrives_of_length hheld hstate, lengthCharacter_of_zero hzero]
    rfl
  case length => rw [characterArrives_of_length hheld hstate, lengthCharacter_of_nonzero hnonzero]
  case body =>
    rw [characterArrives_of_body hheld hstate]
    rfl
  case check => rw [characterArrives_of_check hheld hstate, exec_messageReceived]

/-! ## Commands and the part state (R182, R184, R186) -/

/-- R182, section 11.5: a command that needs the part RUNNING has its rule behind that check. -/
theorem perform_of_needsRunning (s : State) (tag : Byte) {c : HostCommand} (h : needsRunning c = true) :
    ∃ f, s.perform tag c = s.whenRunning f := by
  cases c
  case readStatus | configure | writeIdentity => cases h
  all_goals exact ⟨_, rfl⟩

/-- Settles O10: outside RUNNING the check before the rule refuses. -/
theorem commandsNeedTheConfiguration : Obligations.CommandsNeedTheConfiguration := by
  unfold Obligations.CommandsNeedTheConfiguration
  intro s tag c hover hpart hneeds
  obtain ⟨f, hperform⟩ := perform_of_needsRunning s tag hneeds
  rw [State.turnsAway, exec_rowOf]
  exact answer_arrive hover (by rw [hperform, whenRunning_not_running s f hpart])

/-- Settles O11: the snapshot is taken before the mark is cleared, and needs no part state. -/
theorem readStatusReports : Obligations.ReadStatusReports := by
  unfold Obligations.ReadStatusReports
  intro s tag hover
  refine ⟨answer_arrive (c := .readStatus) hover rfl, rfl, rfl, rfl, rfl, rfl, rfl, rfl, rfl, rfl, rfl, rfl, ?net, ?tare⟩
  case net => simp only [State.statusReport, Channel.netGrams, Int.mul_comm]
  case tare => simp only [State.statusReport, Nat.mul_comm]

/-! ## The hardware resets (section 0.7.7, R166, R184) -/

/-- Settles O3: the state right after reset is given field by field. -/
theorem resetValues : Obligations.ResetValues := by
  unfold Obligations.ResetValues
  exact ⟨rfl, rfl, rfl, rfl, rfl, rfl, rfl, rfl, rfl, rfl, rfl, rfl, rfl, rfl, rfl, rfl, rfl, rfl, rfl, rfl, rfl, rfl, rfl, rfl, rfl, rfl, rfl,
    rfl, rfl, rfl, rfl, rfl, rfl, rfl, rfl, rfl, rfl, rfl, rfl⟩

/-- A reset leaves the transmitter nothing to send, so the step ends with the reset's own state. -/
theorem exec_powerOnReset (s : State) (pins : Pins) : exec (.powerOnReset pins) s = .next (s.resetHard pins) := by
  have hquiet : (s.resetHard pins).finish = s.resetHard pins := finish_of_nothing rfl rfl rfl
  rw [← hquiet]
  rfl

/-- R166: a reset that finds no program and no erase, running or suspended, cuts nothing. -/
theorem cutArray_of_uncut {j : Journal} (k : Nat) (hprogram : ∀ o a b, j.arbiter.running ≠ some (.program o a b))
    (herase : ∀ e, j.arbiter.running ≠ some (.erase e)) (hsuspended : j.arbiter.suspended = none) : j.cutArray k = j.array := by
  unfold Journal.cutArray
  rw [hsuspended]
  cases hrunning : j.arbiter.running with
  | none => rfl
  | some op =>
    cases op with
    | program o a b => exact absurd hrunning (hprogram o a b)
    | read o a n => rfl
    | erase e => exact absurd hrunning (herase e)

theorem reset_drawer_state (l : Level) : (Drawer.reset (l == .first)).state = if l = .first then .closed else .opened := by
  cases l <;> rfl

/-- Settles O4: both resets are the one reset of the model, whose fields are given but for the array. -/
theorem hardwareResetsActAlike : Obligations.HardwareResetsActAlike := by
  unfold Obligations.HardwareResetsActAlike
  refine fun s pins => ⟨rfl, _, exec_powerOnReset s pins, rfl, rfl, rfl, rfl, rfl, rfl, rfl, rfl, rfl, rfl, rfl, rfl, rfl, rfl, rfl, rfl, rfl,
    rfl, rfl, rfl, rfl, reset_drawer_state _, fun hprogram herase hsuspended => ?_⟩
  exact cutArray_of_uncut s.fresh hprogram herase hsuspended

end Sys2Proof.Machine.LaneLink
end

section
/-! SUPPORT. The layout of a command's message (section 12.1, R182, R189): what each form of a field reads back as, and the statement O58 settled from
it. -/

namespace Sys2Proof.Machine.CommandLayout

/-! ## Numbers (Chapter 12, conventions) -/

section numbers
variable (n v : Nat)

@[simp] theorem bytesOf_length : (bytesOf n v).length = n := by
  induction n with
  | zero => rfl
  | succ n ih => simp [bytesOf, ih]

/-- Each byte read shifts what was read before it by one place of base 256. -/
theorem foldl_bytesOf (a : Nat) :
    (bytesOf n v).foldl (fun a b => a * 256 + b.toNat) a = a * 256 ^ n + v % 256 ^ n := by
  induction n generalizing a with
  | zero => simp [bytesOf, Nat.mod_one]
  | succ n ih =>
    rw [bytesOf, List.foldl_cons, ih, Nat.mod_pow_succ (b := 256), BitVec.toNat_ofNat, show 2 ^ 8 = 256 from rfl,
      Nat.add_mul, Nat.mul_assoc, ← Nat.pow_succ', Nat.mul_comm (256 ^ n), Nat.add_assoc, Nat.add_comm (v % 256 ^ n)]

theorem natOf_bytesOf : natOf (bytesOf n v) = v % 256 ^ n := by
  rw [natOf, foldl_bytesOf, Nat.zero_mul, Nat.zero_add]

end numbers

theorem takeBytes_append {n : Nat} {bs : List Byte} (h : bs.length = n) (rest : List Byte) :
    takeBytes n (bs ++ rest) = some (bs, rest) := by
  subst h
  simp [takeBytes]

theorem takeNat_bytesOf {n v : Nat} (h : v < 256 ^ n) (rest : List Byte) :
    takeNat n (bytesOf n v ++ rest) = some (v, rest) := by
  rw [takeNat, takeBytes_append (bytesOf_length n v), Option.map_some, natOf_bytesOf, Nat.mod_eq_of_lt h]

theorem takeNat_bytesOf_end {n v : Nat} (h : v < 256 ^ n) : takeNat n (bytesOf n v) = some (v, []) := by
  have := takeNat_bytesOf h []
  rwa [List.append_nil] at this

/-- Two's complement: a number of half the range reads back as it is, and a negative one from the upper half. -/
theorem takeInt_intBytes {n : Nat} {z : Int} (hlo : -(256 ^ n : Nat) ≤ 2 * z) (hhi : 2 * z < (256 ^ n : Nat)) (rest : List Byte) :
    takeInt n (intBytes n z ++ rest) = some (z, rest) := by
  have hpos : 0 < 256 ^ n := Nat.pow_pos (by decide)
  unfold takeInt intBytes
  generalize hsize : 256 ^ n = size at *
  have hcode : (z % size).toNat = if 0 ≤ z then z else z + size := by
    split
    · rw [Int.emod_eq_of_lt (by omega) (by omega)]
      omega
    · rw [← Int.add_emod_right, Int.emod_eq_of_lt (by omega) (by omega)]
      omega
  generalize (z % size).toNat = code at hcode
  have hlt : code < 256 ^ n := by
    split at hcode <;> omega
  rw [takeNat_bytesOf hlt, Option.map_some]
  split at hcode <;> simp <;> omega

/-! ## Texts (Chapter 12, conventions; R189) -/

theorem takeText_textBytes {t : Text} (h : fitsText t = true) (rest : List Byte) : takeText (textBytes t ++ rest) = some (t, rest) := by
  have hlength : t.length < 256 := by simpa [fitsText, fitsBytes] using h
  rw [textBytes, List.cons_append, takeText, BitVec.toNat_ofNat]
  exact takeBytes_append (Nat.mod_eq_of_lt hlength).symm rest

theorem takeText_textBytes_end {t : Text} (h : fitsText t = true) : takeText (textBytes t) = some (t, []) := by
  have := takeText_textBytes h []
  rwa [List.append_nil] at this

theorem takeTexts_flatMap (rest : List Byte) :
    ∀ {ts : List Text}, ts.all fitsText = true → takeTexts ts.length (ts.flatMap textBytes ++ rest) = some (ts, rest)
  | [], _ => rfl
  | t :: ts, h => by
    obtain ⟨ht, hts⟩ := Bool.and_eq_true_iff.mp (List.all_cons ▸ h)
    simp [takeTexts, takeText_textBytes ht, takeTexts_flatMap rest hts]

/-! ## The payloads (section 12.1) -/

/-- A reading goes on with what its first part has read. -/
theorem read_then {α β : Type} {x : Option α} {f : α → Option β} {a : α} {b : β} (hfirst : x = some a) (hrest : f a = some b) :
    (x >>= f) = some b :=
  Option.bind_eq_some_iff.mpr ⟨a, hfirst, hrest⟩

theorem takeNat_one (b : Byte) (rest : List Byte) : takeNat 1 (b :: rest) = some (b.toNat, rest) := by
  simp [takeNat, takeBytes, natOf]

theorem fitsBytes_iff {n v : Nat} : fitsBytes n v = true ↔ v < 256 ^ n := decide_eq_true_iff

theorem fitsInt24_iff {z : Int} : fitsInt24 z = true ↔ -8388608 ≤ z ∧ z ≤ 8388607 := by simp [fitsInt24]

theorem toNat_lt_four_bytes (x : BitVec 32) : x.toNat < 256 ^ 4 := x.isLt

/-- The flags of ADD LINE (log entry 31). -/
theorem flag_bits (expected noBag : Bool) :
    ((if expected then 1 else 0) + if noBag then 2 else 0).testBit 0 = expected ∧
    ((if expected then 1 else 0) + if noBag then 2 else 0).testBit 1 = noBag := by
  cases expected <;> cases noBag <;> decide

theorem decodeAddLine_payload {f : LineFields} (h : f.wf = true) : decodeAddLine (HostCommand.addLine f).payload = some (.addLine f) := by
  obtain ⟨desc, quantity, price, expected, noBag⟩ := f
  simp only [LineFields.wf, Bool.and_eq_true, fitsBytes_iff] at h
  obtain ⟨⟨⟨hdesc, hquantity⟩, hprice⟩, hexpected⟩ := h
  have hflags : ((if expected.isSome = true then 1 else 0) + if noBag = true then 2 else 0) < 256 ^ 1 := by
    cases expected.isSome <;> cases noBag <;> decide
  obtain ⟨hgiven, hmark⟩ := flag_bits expected.isSome noBag
  rw [decodeAddLine, HostCommand.payload]
  simp only [List.append_assoc]
  refine read_then (takeText_textBytes hdesc _) (read_then (takeNat_bytesOf hquantity _) (read_then (takeNat_bytesOf hprice _)
    (read_then (takeNat_bytesOf hflags _) ?_)))
  cases expected with
  | none =>
    refine read_then (takeNat_bytesOf (by decide) _) (read_then (takeNat_bytesOf_end (by decide)) ?_)
    simp only [hgiven, hmark]
    rfl
  | some e =>
    obtain ⟨hgrams, htolerance⟩ := Bool.and_eq_true_iff.mp hexpected
    refine read_then (takeNat_bytesOf (fitsBytes_iff.mp hgrams) _) (read_then (takeNat_bytesOf_end (fitsBytes_iff.mp htolerance)) ?_)
    simp only [hgiven, hmark]
    rfl

theorem decodeConfigure_payload {v : ConfigValues} (h : v.wf = true) :
    decodeConfigure (HostCommand.configure v).payload = some (.configure v) := by
  simp only [ConfigValues.wf, Bool.and_eq_true, fitsBytes_iff, fitsInt24_iff] at h
  obtain ⟨⟨⟨⟨⟨⟨⟨⟨⟨⟨⟨⟨hbudget, hhead⟩, hperiod⟩, hproduceZero⟩, hproduceSpan⟩, hbaggingZero⟩, hbaggingSpan⟩, hkick⟩, hprefixes⟩, hprefix⟩,
    hheaders⟩, hheader⟩, hdecimals⟩ := h
  have zero {z : Int} (hz : -8388608 ≤ z ∧ z ≤ 8388607) (rest : List Byte) : takeInt 3 (intBytes 3 z ++ rest) = some (z, rest) :=
    takeInt_intBytes (by omega) (by omega) rest
  rw [decodeConfigure, HostCommand.payload]
  simp only [textsBytes, List.append_assoc]
  refine read_then (takeNat_bytesOf hbudget _) (read_then (takeNat_bytesOf hhead _) (read_then (takeNat_bytesOf hperiod _) ?scale))
  refine read_then (zero hproduceZero _) (read_then (takeNat_bytesOf hproduceSpan _) ?bagging)
  refine read_then (zero hbaggingZero _) (read_then (takeNat_bytesOf hbaggingSpan _) (read_then (takeNat_bytesOf hkick _) ?texts))
  refine read_then (takeNat_bytesOf hprefixes _) (read_then (takeTexts_flatMap _ hprefix) ?headers)
  exact read_then (takeNat_bytesOf hheaders _) (read_then (takeTexts_flatMap _ hheader) (read_then (takeNat_bytesOf_end hdecimals) rfl))

/-- R189: each payload, read under the KIND of its command, is the command. -/
theorem decodePayload_payload {c : HostCommand} (h : c.fieldsWf = true) : decodePayload c.kind.toNat c.payload = some c := by
  cases c
  case openSale r t =>
    exact read_then (takeNat_bytesOf (toNat_lt_four_bytes r) _) (read_then (takeNat_bytesOf_end (toNat_lt_four_bytes t)) (by simp [ended]))
  case addLine f => exact decodeAddLine_payload h
  case voidLine i => exact read_then (takeNat_bytesOf_end (fitsBytes_iff.mp h)) rfl
  case tenderCash a => exact read_then (takeNat_bytesOf_end (fitsBytes_iff.mp h)) rfl
  case tenderCard a t =>
    obtain ⟨ha, ht⟩ := Bool.and_eq_true_iff.mp h
    exact read_then (takeNat_bytesOf (fitsBytes_iff.mp ha) _) (read_then (takeText_textBytes_end ht) rfl)
  case weighItem d p b =>
    obtain ⟨hdp, hb⟩ := Bool.and_eq_true_iff.mp h
    obtain ⟨hd, hp⟩ := Bool.and_eq_true_iff.mp hdp
    rw [HostCommand.payload, List.append_assoc]
    exact read_then (takeText_textBytes hd _) (read_then (takeNat_bytesOf (fitsBytes_iff.mp hp) _)
      (read_then (takeNat_bytesOf_end (fitsBytes_iff.mp hb)) rfl))
  case setTare g =>
    cases g with
    | none => rfl
    | some g => exact read_then (takeNat_one _ _) (read_then (takeNat_bytesOf_end (fitsBytes_iff.mp h)) rfl)
  case playTone t => exact read_then (takeNat_bytesOf_end (fitsBytes_iff.mp h)) rfl
  case writeIdentity n l =>
    obtain ⟨hn, hl⟩ := Bool.and_eq_true_iff.mp h
    exact read_then (takeNat_bytesOf (fitsBytes_iff.mp hn) _) (read_then (takeText_textBytes_end hl) rfl)
  case readJournal q o =>
    exact read_then (takeNat_bytesOf (toNat_lt_four_bytes q) _) (read_then (takeNat_bytesOf_end (fitsBytes_iff.mp h)) (by simp [ended]))
  case confirmExport q => exact read_then (takeNat_bytesOf_end (toNat_lt_four_bytes q)) (by simp [ended])
  case configure v => exact decodeConfigure_payload h
  all_goals rfl

theorem kind_named (c : HostCommand) : 1 ≤ c.kind.toNat ∧ c.kind.toNat ≤ 27 := by
  cases c <;> simp [HostCommand.kind]

/-- Settles O58: the KIND names the command, and its payload reads back. -/
theorem commandsReadBack : Obligations.CommandsReadBack := by
  unfold Obligations.CommandsReadBack
  intro c tag hwf
  obtain ⟨hfields, -⟩ := Bool.and_eq_true_iff.mp hwf
  simp only [HostCommand.body, readBody, if_pos (kind_named c), decodePayload_payload hfields]

end Sys2Proof.Machine.CommandLayout
end

section
/-! SUPPORT. CONFIGURE (R185). Each part of it is stated twice: what it does to its own block, and that it leaves the state as
it was beside the blocks that it may write, which an erasure of those blocks says in one equation. The statement O12 is settled from them. -/

namespace Sys2Proof.Machine.LaneConfiguration

open ScaleFrontEnd

/-! ## Beside the cluster unit and the notices placed -/

/-- The state with the cluster unit and the notices placed erased. -/
def besideCluster (s : State) : State :=
  { s with link := { s.link with notices := [], lost := false }, cluster := .reset 0 }

section besideCluster
variable (s : State)

@[simp] theorem besideCluster_setCluster (c : Cluster) : besideCluster (s.setCluster c) = besideCluster s := rfl

@[simp] theorem besideCluster_notice (n : Notice) : besideCluster (s.notice n) = besideCluster s := by
  unfold besideCluster
  rw [notice_link, Link.place_eq]
  rfl

@[simp] theorem besideCluster_updateCluster (c : Cluster) : besideCluster (s.updateCluster c) = besideCluster s := by
  unfold State.updateCluster
  split <;> simp

@[simp] theorem besideCluster_setWanted (r : Reasons) : besideCluster (s.setWanted r) = besideCluster s := by
  unfold State.setWanted
  split <;> simp

@[simp] theorem besideCluster_raise (r : CallReason) : besideCluster (s.raise r) = besideCluster s := besideCluster_setWanted s _

@[simp] theorem besideCluster_setMode (m : LineMode) (x : LineModeCause) : besideCluster (s.setMode m x) = besideCluster s := by
  obtain h | h := setMode_eq s m x <;> simp [h]

@[simp] theorem besideCluster_enterListen : besideCluster s.enterListen = besideCluster s := by
  simp [State.enterListen, State.stationNotice]

theorem scale_of_besideCluster {s t : State} (h : besideCluster t = besideCluster s) : t.scale = s.scale :=
  (congrArg State.scale h :)

end besideCluster

/-- R36, R45: the cluster unit on entry to LISTEN, with its line diagnosis mode FULL. -/
theorem enterListen_cluster (s : State) : s.enterListen.cluster = { s.cluster.listening with mode := .full } := by
  unfold State.enterListen State.stationNotice State.setMode
  rw [notice_cluster, updateCluster_cluster]
  split
  · next hmode =>
    rw [updateCluster_cluster, hmode]
  · rfl

/-! ## A reason raised writes the call of the own station (R40, R64) -/

/-- `d` is `c` up to the wanted set, the call queue with its counter, and the outgoing frames. -/
def SameUpToCall (c d : Cluster) : Prop :=
  ∃ wanted queue counter out age held,
    d = { c with wanted := wanted, queue := queue, counter := counter, out := out, nextAge := age, heldRequests := held }

namespace SameUpToCall

theorem refl (c : Cluster) : SameUpToCall c c := ⟨_, _, _, _, _, _, rfl⟩

theorem after {c d e : Cluster} (k : SameUpToCall d e) (h : SameUpToCall c d) : SameUpToCall c e := by
  obtain ⟨_, _, _, _, _, _, rfl⟩ := h
  obtain ⟨_, _, _, _, _, _, rfl⟩ := k
  exact ⟨_, _, _, _, _, _, rfl⟩

theorem setWantedField (c : Cluster) (r : Reasons) : SameUpToCall c { c with wanted := r } := ⟨_, _, _, _, _, _, rfl⟩

theorem requestCall (c : Cluster) (b : OutBody) : SameUpToCall c (c.requestCall b) := by
  unfold Cluster.requestCall Cluster.applyCall Cluster.replaceOut
  split
  · exact ⟨_, _, _, _, _, _, rfl⟩
  · split <;> exact ⟨_, _, _, _, _, _, rfl⟩

theorem loneCall (c : Cluster) (r : Reasons) : SameUpToCall c (c.loneCall r) := by
  unfold Cluster.loneCall Cluster.applyRaise
  split
  · exact ⟨_, _, _, _, _, _, rfl⟩
  · split <;> exact ⟨_, _, _, _, _, _, rfl⟩

theorem provisionalCall (c : Cluster) (r : Reasons) : SameUpToCall c (c.provisionalCall r) := by
  unfold Cluster.provisionalCall
  split
  · exact ⟨_, _, _, _, _, _, rfl⟩
  · split <;> exact ⟨_, _, _, _, _, _, rfl⟩

theorem wantedChanged (c : Cluster) (r : Reasons) (b : OutBody) : SameUpToCall c (c.wantedChanged r b) := by
  have hmember := (requestCall _ b).after (setWantedField c r)
  have hlone := (loneCall _ r).after (setWantedField c r)
  have hprovisional := (requestCall _ b).after ((provisionalCall _ r).after (setWantedField c r))
  unfold Cluster.wantedChanged
  split
  · exact hmember
  · exact hlone
  all_goals exact hprovisional

/-- R64: of the cluster unit, a reason raised writes the own call. -/
theorem raise (s : State) (r : CallReason) : SameUpToCall s.cluster (s.raise r).cluster := by
  unfold State.raise State.setWanted
  split
  · exact refl _
  · rw [updateCluster_cluster]
    exact wantedChanged _ _ _

end SameUpToCall

/-! ## The scale front end at CONFIGURE (R68, R69, R74, R76) -/

/-- R68, R74, R76: the scale front end as CONFIGURE starts it, before its BRIDGE_FAULT input is looked at. -/
def configuredScale (c : Scale) (v : ConfigValues) : Scale :=
  { c with
    gen := { c.gen with running := true, restart := false, phase := .positiveDead, timer := some 0, period := v.period },
    produce := c.produce.configured v.produceZero v.produceSpan,
    bagging := c.bagging.configured v.baggingZero v.baggingSpan }

/-- The state with the blocks erased that the scale's start may write: the cluster unit, the notices, the scale, the capture and the sale. -/
def besideScale (s : State) : State :=
  { besideCluster s with scale := .reset .normal, capture := .reset, sale := .idle }

section besideScale
variable {s t : State}

theorem besideScale_congr (h : besideCluster t = besideCluster s) : besideScale t = besideScale s := by
  rw [besideScale, h, besideScale]

@[simp] theorem besideScale_setScale (s : State) (c : Scale) : besideScale (s.setScale c) = besideScale s := rfl

@[simp] theorem besideScale_notice (s : State) (n : Notice) : besideScale (s.notice n) = besideScale s :=
  besideScale_congr (besideCluster_notice s n)

@[simp] theorem besideScale_raise (s : State) (r : CallReason) : besideScale (s.raise r) = besideScale s :=
  besideScale_congr (besideCluster_raise s r)

@[simp] theorem besideScale_weightNotice (s : State) : besideScale s.weightNotice = besideScale s := by
  rw [State.weightNotice, besideScale_notice, besideScale_setScale]

theorem besideScale_of_sameUpToReport (h : SameUpToReport s t) : besideScale t = besideScale s := by
  obtain rfl | rfl := h
  · rfl
  · exact besideScale_weightNotice s

@[simp] theorem besideScale_endCapture (s : State) (o : CaptureOutcome) : besideScale (s.endCapture o) = besideScale s := by
  unfold State.endCapture
  split
  · rfl
  · rw [besideScale_notice]
    rfl

@[simp] theorem besideScale_forcedCutoff (s : State) : besideScale s.forcedCutoff = besideScale s := by
  obtain ⟨t, hsame, hcut⟩ := forcedCutoff_eq s
  rw [hcut, besideScale_endCapture, besideScale_of_sameUpToReport hsame, besideScale_raise, besideScale_setScale]

theorem startScale_of_normal (v : ConfigValues) (h : s.scale.gen.bridge = .normal) :
    s.startScale v = (s.setScale (configuredScale s.scale v)).weightNotice := by
  unfold State.startScale
  dsimp only
  split
  · next hfault => cases h.symm.trans hfault
  · rfl

theorem startScale_of_fault (v : ConfigValues) (h : s.scale.gen.bridge = .fault) :
    s.startScale v = (s.setScale (configuredScale s.scale v)).weightNotice.forcedCutoff := by
  unfold State.startScale
  dsimp only
  split
  · rfl
  · next hnormal => cases h.symm.trans hnormal

theorem besideScale_startScale (s : State) (v : ConfigValues) : besideScale (s.startScale v) = besideScale s := by
  cases hbridge : s.scale.gen.bridge with
  | normal => simp [startScale_of_normal v hbridge]
  | fault => simp [startScale_of_fault v hbridge]

theorem kept_of_besideScale (h : besideScale t = besideScale s) :
    t.link.part = s.link.part ∧ t.link.replies = s.link.replies ∧ t.sense = s.sense ∧ t.drawer = s.drawer ∧ t.engine = s.engine ∧
    t.journal = s.journal :=
  ⟨(congrArg (fun u : State => u.link.part) h :), (congrArg (fun u : State => u.link.replies) h :), (congrArg State.sense h :),
    (congrArg State.drawer h :), (congrArg State.engine h :), (congrArg State.journal h :)⟩

end besideScale

/-- R69: a forced cutoff cuts the scale off and writes of the cluster unit the own call. -/
theorem forcedCutoff_effect (s : State) :
    s.forcedCutoff.scale.gen = (cutOffScale s.scale).gen ∧ s.forcedCutoff.scale.produce = s.scale.produce.cutOff ∧
    s.forcedCutoff.scale.bagging = s.scale.bagging.baggingCutOff ∧ SameUpToCall s.cluster s.forcedCutoff.cluster := by
  obtain ⟨t, hsame, hcut⟩ := forcedCutoff_eq s
  rw [hcut, endCapture_scale, endCapture_cluster, hsame.gen, hsame.produce, hsame.baggingChannel, hsame.cluster, raise_scale]
  exact ⟨rfl, rfl, rfl, SameUpToCall.raise _ _⟩

/-- R68, R69, R185: what CONFIGURE makes of the scale front end `c`. -/
structure ScaleStarted (c : Scale) (v : ConfigValues) (d : Scale) : Prop where
  period : d.gen.period = v.period
  running : d.gen.running = decide (c.gen.bridge = .normal)
  produceZero : d.produce.zeroRef = 16 * v.produceZero
  produceSpan : d.produce.span = v.produceSpan
  produceState : d.produce.state = if c.gen.bridge = .normal then .warmup else .fault
  baggingZero : d.bagging.zeroRef = 16 * v.baggingZero
  baggingSpan : d.bagging.span = v.baggingSpan
  baggingState : d.bagging.state = if c.gen.bridge = .normal then .warmup else .fault

theorem startScale_effect (s : State) (v : ConfigValues) :
    ScaleStarted s.scale v (s.startScale v).scale ∧ SameUpToCall s.cluster (s.startScale v).cluster := by
  cases hbridge : s.scale.gen.bridge with
  | normal =>
    rw [startScale_of_normal v hbridge]
    refine ⟨⟨rfl, ?_, rfl, rfl, ?_, rfl, rfl, ?_⟩, SameUpToCall.refl _⟩
    all_goals
      rw [hbridge]
      rfl
  | fault =>
    obtain ⟨hgen, hproduce, hbagging, hcall⟩ := forcedCutoff_effect (s.setScale (configuredScale s.scale v)).weightNotice
    rw [startScale_of_fault v hbridge]
    exact ⟨{
      period := by rw [hgen]; rfl
      running := by rw [hgen, hbridge]; rfl
      produceZero := by rw [hproduce]; rfl
      produceSpan := by rw [hproduce]; rfl
      produceState := by rw [hproduce, hbridge]; rfl
      baggingZero := by rw [hbagging]; rfl
      baggingSpan := by rw [hbagging]; rfl
      baggingState := by rw [hbagging, hbridge]; rfl }, hcall⟩

/-! ## The print engine at CONFIGURE (R148, R150) -/

/-- R148, R150: the print engine takes H, and a watch of the paper that does not match raises PAPER_OUT. -/
theorem startEngine_effect (s : State) (h : Nat) :
    ∃ e, e.headMax = h ∧ besideCluster (s.startEngine h) = besideCluster (s.setEngine e) ∧
      SameUpToCall s.cluster (s.startEngine h).cluster := by
  unfold State.startEngine State.raisePaperOut
  dsimp only
  split
  · refine ⟨{ s.engine with headMax := h }, rfl, ?_⟩
    split
    · exact ⟨rfl, SameUpToCall.refl _⟩
    · exact ⟨besideCluster_notice _ _, SameUpToCall.refl _⟩
  · refine ⟨{ s.engine with headMax := h, paperOut := true }, rfl, ?_⟩
    split
    · exact ⟨besideCluster_raise _ _, SameUpToCall.raise _ _⟩
    · exact ⟨(besideCluster_notice _ _).trans (besideCluster_raise _ _), SameUpToCall.raise _ _⟩

/-! ## The authority timer (R117) -/

section putAuthority
variable (s : State) (a : Authority)

@[simp] theorem putAuthority_authority : (s.putAuthority a).authority = a := by
  unfold State.putAuthority
  split <;> rfl

@[simp] theorem putAuthority_part : (s.putAuthority a).link.part = s.link.part := by
  unfold State.putAuthority
  split
  · rfl
  · exact Link.place_part _ _

@[simp] theorem putAuthority_replies : (s.putAuthority a).link.replies = s.link.replies := by
  unfold State.putAuthority
  split
  · rfl
  · exact Link.place_replies _ _

end putAuthority

/-! ## CONFIGURE (R185) -/

/-- R185: what CONFIGURE with the values `v` makes of the state `s`, block by block. -/
structure Configured (s : State) (v : ConfigValues) (t : State) : Prop where
  part : t.link.part = .running
  replies : t.link.replies = s.link.replies
  budget : t.cluster.budget = some v.budget
  station : t.cluster.state = .listen
  listen : t.cluster.listen = some 0
  scale : ScaleStarted s.scale v t.scale
  drawer : t.drawer = s.drawer.configured v.kickWidth
  headMax : t.engine.headMax = v.headMax
  key : t.authority.key = if s.sense.watchKey.matching then .home else .spent
  prefixes : t.card.prefixes = v.prefixes
  headers : t.composer.headers = v.headers
  decimals : t.composer.decimals = v.decimals
  journal : t.journal = s.journal

/-- R185: CONFIGURE up to the key: the part RUNNING, the cluster unit, the scale and the drawer started, and the print engine last. -/
def configuredToEngine (s : State) (v : ConfigValues) : State :=
  let running := (s.setLink { s.link with part := .running }).notice (.part .running none)
  (((running.startCluster v.budget).startScale v).setDrawer (s.drawer.configured v.kickWidth)).startEngine v.headMax

theorem configureNow_eq (s : State) (v : ConfigValues) :
    s.configureNow v =
      ((configuredToEngine s v).settleKey.setCard { (configuredToEngine s v).settleKey.card with prefixes := v.prefixes }).setComposer
        { (configuredToEngine s v).settleKey.composer with headers := v.headers, decimals := v.decimals } := by
  unfold State.configureNow configuredToEngine
  rfl

theorem startCluster_cluster (s : State) (n : Nat) :
    (s.startCluster n).cluster = { ({ s.cluster with budget := some n } : Cluster).listening with mode := .full } :=
  enterListen_cluster _

theorem besideCluster_startCluster (s : State) (n : Nat) : besideCluster (s.startCluster n) = besideCluster s :=
  (besideCluster_enterListen _).trans (besideCluster_setCluster s _)

theorem configuredToEngine_effect (s : State) (v : ConfigValues) :
    (∃ e, e.headMax = v.headMax ∧ besideScale (configuredToEngine s v) =
      besideScale (((s.setLink { s.link with part := .running }).setDrawer (s.drawer.configured v.kickWidth)).setEngine e)) ∧
    ScaleStarted s.scale v (configuredToEngine s v).scale ∧
    SameUpToCall { ({ s.cluster with budget := some v.budget } : Cluster).listening with mode := .full }
      (configuredToEngine s v).cluster := by
  let running := (s.setLink { s.link with part := .running }).notice (.part .running none)
  let joined := running.startCluster v.budget
  have hjoined : besideCluster joined = besideCluster (s.setLink { s.link with part := .running }) :=
    (besideCluster_startCluster _ _).trans (besideCluster_notice _ _)
  have hscale : joined.scale = s.scale := (scale_of_besideCluster hjoined :)
  have hcluster : joined.cluster = { ({ s.cluster with budget := some v.budget } : Cluster).listening with mode := .full } :=
    startCluster_cluster _ _
  have hweighing : besideScale (joined.startScale v) = besideScale (s.setLink { s.link with part := .running }) :=
    (besideScale_startScale _ _).trans (besideScale_congr hjoined)
  obtain ⟨hstarted, hcalled⟩ := startScale_effect joined v
  obtain ⟨e, hmax, hengine, hraised⟩ :=
    startEngine_effect ((joined.startScale v).setDrawer (s.drawer.configured v.kickWidth)) v.headMax
  have hconfigured : configuredToEngine s v =
      ((joined.startScale v).setDrawer (s.drawer.configured v.kickWidth)).startEngine v.headMax := rfl
  rw [hconfigured]
  refine ⟨⟨e, hmax, (besideScale_congr hengine).trans ?_⟩, ?_, ?_⟩
  · exact congrArg (fun u : State => (u.setDrawer (s.drawer.configured v.kickWidth)).setEngine e) hweighing
  · rw [hscale] at hstarted
    rw [scale_of_besideCluster hengine, setEngine_scale, setDrawer_scale]
    exact hstarted
  · rw [hcluster] at hcalled
    exact hraised.after hcalled

/-- R185: what CONFIGURE leaves, from its parts. -/
theorem configureNow_configured (s : State) (v : ConfigValues) : Configured s v (s.configureNow v) := by
  obtain ⟨⟨e, hmax, hside⟩, hscale, hcall⟩ := configuredToEngine_effect s v
  obtain ⟨hpart, hreplies, hsense, hdrawer, hengine, hjournal⟩ := kept_of_besideScale hside
  obtain ⟨_, _, _, _, _, _, hcluster⟩ := hcall
  rw [configureNow_eq]
  generalize configuredToEngine s v = t at *
  exact {
    part := by simp [State.settleKey, hpart]
    replies := by simp [State.settleKey, hreplies]
    budget := by simp [State.settleKey, hcluster, Cluster.listening]
    station := by simp [State.settleKey, hcluster, Cluster.listening]
    listen := by simp [State.settleKey, hcluster, Cluster.listening]
    scale := by simpa [State.settleKey] using hscale
    drawer := by simp [State.settleKey, hdrawer]
    headMax := by simp [State.settleKey, hengine, hmax]
    key := by simp [State.settleKey, hsense]
    prefixes := rfl
    headers := rfl
    decimals := rfl
    journal := by simp [State.settleKey, hjournal] }

section configure
variable {s : State} {v : ConfigValues}

theorem configure_of_starting (h : s.link.part = .starting) : s.configure v = s.refuse .noConfig := by
  simp only [State.configure, h]

theorem configure_of_running (h : s.link.part = .running) : s.configure v = s.refuse .badState := by
  simp only [State.configure, h]

theorem configure_of_out_of_range (h : s.link.part = .unconfigured) (hrange : configInRange v = false) :
    s.configure v = s.refuse .range := by
  simp [State.configure, h, hrange]

theorem configure_of_in_range (h : s.link.part = .unconfigured) (hrange : configInRange v = true) :
    s.configure v = (s.configureNow v).done .nothing := by
  simp [State.configure, h, hrange]

end configure

/-- Settles O12: the checks of CONFIGURE by the part state and the ranges, and the blocks configured. -/
theorem configureStartsTheLane : Obligations.ConfigureStartsTheLane := by
  unfold Obligations.ConfigureStartsTheLane
  intro s tag v hover
  refine ⟨fun hpart => answer_arrive (c := .configure v) hover (configure_of_starting hpart),
    fun hpart => answer_arrive (c := .configure v) hover (configure_of_running hpart),
    fun hpart hrange => answer_arrive (c := .configure v) hover (configure_of_out_of_range hpart hrange),
    fun hpart hrange => ⟨_, answer_arrive (c := .configure v) hover (configure_of_in_range hpart hrange), ?_⟩⟩
  have done := configureNow_configured s v
  generalize s.configureNow v = t at done
  rw [finish_reply_replies, finish_link, Link.pump_part, reply_link]
  refine ⟨done.part, done.budget, done.station, done.listen, done.headMax, done.scale.period, done.scale.running, done.scale.produceZero,
    done.scale.produceSpan, done.scale.baggingZero, done.scale.baggingSpan, done.scale.produceState, done.scale.baggingState, ?kick, ?timer,
    done.prefixes, done.headers, done.decimals, done.key, done.journal, congrArg (· ++ _) done.replies⟩
  case kick => simp [done.drawer, Drawer.configured]
  case timer =>
    intro hopen
    simp [done.drawer, Drawer.configured, hopen]

end Sys2Proof.Machine.LaneConfiguration
end

section
/-! SUPPORT. LANE RESET (R187): the release of units that its drawer and its print job bring, which in LONE may start a waiting claim and with it the
print engine, the blocks that it puts to rest, and the statement O13 settled from them. -/

namespace Sys2Proof.Machine.LaneReset

open ScaleFrontEnd TonesAndDrawer LaneConfiguration

/-! ## Requests of the consumers leave the budget (R57 to R60) -/

section budget
variable (c : Cluster) (k : Consumer)

@[simp] theorem setConsumer_budget (r : ConsumerRec) : (c.setConsumer k r).budget = c.budget := by cases k <;> rfl

@[simp] theorem replaceOut_budget (kind : OutBody → Bool) (b : OutBody) : (c.replaceOut kind b).budget = c.budget := by
  unfold Cluster.replaceOut
  split <;> rfl

@[simp] theorem requestSupply_budget (b : OutBody) : (c.requestSupply b k).budget = c.budget := by
  unfold Cluster.requestSupply
  split
  · rfl
  · exact replaceOut_budget c _ b

@[simp] theorem requestRelease_budget : (c.requestRelease k).budget = c.budget := by
  obtain ⟨out, age, held, h⟩ := requestRelease_eq c k
  rw [h]

@[simp] theorem loneClaim_budget (lo hi : Nat) (topup : Bool) : (c.loneClaim k lo hi topup).budget = c.budget := by
  unfold Cluster.loneClaim
  dsimp only
  split <;> simp

@[simp] theorem askClaim_budget (lo hi : Nat) : (c.askClaim k lo hi).budget = c.budget := by
  unfold Cluster.askClaim
  split <;> simp

@[simp] theorem askTopup_budget (hi : Nat) : (c.askTopup hi).budget = c.budget := by
  unfold Cluster.askTopup
  split <;> simp

@[simp] theorem askAgain_budget : (c.askAgain k).budget = c.budget := by
  unfold Cluster.askAgain
  split <;> simp

@[simp] theorem retryEvent_budget : c.retryEvent.budget = c.budget := by simp [Cluster.retryEvent]

@[simp] theorem clearRequest_budget : (c.clearRequest k).budget = c.budget := by simp [Cluster.clearRequest]

end budget

/-! ## Beside what a release of units may write -/

/-- The state with all erased that a release of units may write: the cluster unit but for the budget, the notices placed, the conversion unit, the
drawer's record, the print engine, the composer and the array arbiter. -/
def besideSupply (s : State) : State :=
  { s with link := { s.link with notices := [], lost := false }, cluster := { Cluster.reset 0 with budget := s.cluster.budget },
           scale := { s.scale with conv := (Scale.reset .normal).conv }, drawer := .reset true, engine := .reset, composer := .reset,
           journal := { s.journal with arbiter := { running := none, waiting := [], suspended := none } } }

section besideSupply
variable (s : State)

theorem besideSupply_congr {s t : State} (h : besideCluster t = besideCluster s) (hbudget : t.cluster.budget = s.cluster.budget) :
    besideSupply t = besideSupply s := by
  have through (u : State) :
      besideSupply u = (besideSupply (besideCluster u)).setCluster { Cluster.reset 0 with budget := u.cluster.budget } := rfl
  rw [through t, h, hbudget]
  rfl

@[simp] theorem besideSupply_setCluster {c : Cluster} (h : c.budget = s.cluster.budget) :
    besideSupply (s.setCluster c) = besideSupply s := besideSupply_congr rfl h

@[simp] theorem besideSupply_notice (n : Notice) : besideSupply (s.notice n) = besideSupply s :=
  besideSupply_congr (besideCluster_notice s n) rfl

@[simp] theorem besideSupply_setDrawer (d : Drawer) : besideSupply (s.setDrawer d) = besideSupply s := rfl

@[simp] theorem besideSupply_setEngine (e : Engine) : besideSupply (s.setEngine e) = besideSupply s := rfl

@[simp] theorem besideSupply_setComposer (c : Composer) : besideSupply (s.setComposer c) = besideSupply s := rfl

@[simp] theorem besideSupply_requestTemperature : besideSupply s.requestTemperature = besideSupply s := rfl

@[simp] theorem besideSupply_putDrawer (d : Drawer) (handed : Bool) : besideSupply (s.putDrawer d handed) = besideSupply s := by
  unfold State.putDrawer
  dsimp only
  split <;> simp

@[simp] theorem besideSupply_putEngine (e : Engine) (x : Option JobOutcome) : besideSupply (s.putEngine e x) = besideSupply s := by
  unfold State.putEngine
  dsimp only
  split <;> simp

@[simp] theorem besideSupply_engineTo (st : EngineState) : besideSupply (s.engineTo st) = besideSupply s := besideSupply_putEngine s _ _

@[simp] theorem besideSupply_footerReached : besideSupply s.footerReached = besideSupply s := by
  obtain ⟨st, h⟩ := footerReached_eq s
  rw [h, besideSupply_setComposer]

@[simp] theorem besideSupply_seekCopy : besideSupply s.seekCopy = besideSupply s := by
  unfold State.seekCopy
  split
  · rfl
  · next c _ =>
    split
    · obtain ⟨a, ha⟩ := ask_eq s.journal (.read .copy (c.addr + c.bytes.length) c.readLength)
      rw [ha]
      rfl
    · rfl

@[simp] theorem besideSupply_stageRow : besideSupply s.stageRow = besideSupply s := by
  unfold State.stageRow
  split
  · split
    · split
      · rfl
      · rfl
    · split
      · simp
      · rfl
  · rfl

@[simp] theorem besideSupply_startStaged : besideSupply s.startStaged = besideSupply s := by
  unfold State.startStaged State.transfer
  split
  · split <;> simp
  · rfl

@[simp] theorem besideSupply_startRow : besideSupply s.startRow = besideSupply s := by
  unfold State.startRow
  dsimp only
  split
  · simp
  · split
    · simp
    · split <;> simp

@[simp] theorem besideSupply_rowStart : besideSupply s.rowStart = besideSupply s := by
  unfold State.rowStart State.pauseMedia
  dsimp only
  split
  · simp
  · split
    · split
      · split <;> simp
      · split <;> simp
    · simp

@[simp] theorem besideSupply_tellPrinter : besideSupply s.tellPrinter = besideSupply s := by
  unfold State.tellPrinter
  split <;> simp

@[simp] theorem besideSupply_tellDrawer : besideSupply s.tellDrawer = besideSupply s := by
  unfold State.tellDrawer State.enterKicking
  split <;> simp

@[simp] theorem besideSupply_topupAfterRelease : besideSupply s.topupAfterRelease = besideSupply s := by
  unfold State.topupAfterRelease
  split <;> simp

@[simp] theorem besideSupply_enterListen : besideSupply s.enterListen = besideSupply s :=
  besideSupply_congr (besideCluster_enterListen s) (by rw [enterListen_cluster]; rfl)

@[simp] theorem besideSupply_leaveLoneWhenFree : besideSupply s.leaveLoneWhenFree = besideSupply s := by
  unfold State.leaveLoneWhenFree
  split <;> simp

@[simp] theorem besideSupply_loneRelease (k : Consumer) : besideSupply (s.loneRelease k) = besideSupply s := by
  unfold State.loneRelease State.tellGrants
  split <;> simp

/-- R57, R60: whatever a release starts, it stays within what `besideSupply` erases. -/
@[simp] theorem besideSupply_releaseHolding (k : Consumer) : besideSupply (s.releaseHolding k) = besideSupply s := by
  unfold State.releaseHolding
  dsimp only
  split <;> simp

end besideSupply

/-! ## A release leaves no busy engine in IDLE (R144, R147) -/

section busy
variable (s : State)

@[simp] theorem putEngine_engine (e : Engine) (x : Option JobOutcome) : (s.putEngine e x).engine = e := by
  unfold State.putEngine
  dsimp only
  split <;> rfl

@[simp] theorem stageRow_engine_state : s.stageRow.engine.state = s.engine.state := by
  unfold State.stageRow
  split
  · split
    · split <;> rfl
    · split <;> rfl
  · rfl

theorem startStaged_busy (h : s.engine.state ≠ .idle) : s.startStaged.engine.state ≠ .idle := by
  unfold State.startStaged State.transfer State.engineTo
  split
  · split
    · simp
    · rw [stageRow_engine_state, requestTemperature_engine, putEngine_engine]
      split <;> simp
  · exact h

theorem startRow_busy (h : s.engine.state ≠ .idle) : s.startRow.engine.state ≠ .idle := by
  unfold State.startRow State.engineTo
  dsimp only
  split
  · exact startStaged_busy _ (by rwa [stageRow_engine_state])
  · split
    · rw [putEngine_engine]
      split <;> simp
    · split
      · simp
      · exact startStaged_busy _ (by simp)
      · simp

theorem rowStart_busy (h : s.engine.state ≠ .idle) : s.rowStart.engine.state ≠ .idle := by
  unfold State.rowStart State.pauseMedia State.engineTo
  dsimp only
  split
  · simp
  · split
    · split
      · split
        · simp
        · exact startRow_busy _ (by simp)
      · split
        · simp
        · exact startRow_busy _ (by simp)
    · exact startRow_busy s h

theorem tellPrinter_busy (h : s.engine.state ≠ .idle) : s.tellPrinter.engine.state ≠ .idle := by
  unfold State.tellPrinter
  split
  · exact rowStart_busy s h
  · exact h

@[simp] theorem enterListen_engine : s.enterListen.engine = s.engine := (congrArg State.engine (besideCluster_enterListen s) :)

@[simp] theorem leaveLoneWhenFree_engine : s.leaveLoneWhenFree.engine = s.engine := by
  unfold State.leaveLoneWhenFree
  split <;> simp

@[simp] theorem tellDrawer_engine : s.tellDrawer.engine = s.engine := by
  unfold State.tellDrawer State.enterKicking
  split <;> simp

@[simp] theorem topupAfterRelease_engine : s.topupAfterRelease.engine = s.engine := by
  unfold State.topupAfterRelease
  split <;> rfl

theorem releaseHolding_busy (k : Consumer) (h : s.engine.state ≠ .idle) : (s.releaseHolding k).engine.state ≠ .idle := by
  unfold State.releaseHolding State.loneRelease State.tellGrants
  dsimp only
  split
  · split
    · exact h
    · rw [leaveLoneWhenFree_engine, tellDrawer_engine]
      exact tellPrinter_busy _ (by simpa using h)
  · exact h

end busy

/-! ## The sale, the scale, the card decoder and the authority timer at rest (R22, R78, R82, R116, R117) -/

section blocks
variable (s : State)

@[simp] theorem endCapture_part (o : CaptureOutcome) : (s.endCapture o).link.part = s.link.part :=
  (kept_of_besideScale (besideScale_endCapture s o)).1

@[simp] theorem endCapture_replies (o : CaptureOutcome) : (s.endCapture o).link.replies = s.link.replies :=
  (kept_of_besideScale (besideScale_endCapture s o)).2.1

/-- R78, R82: the scale front end as LANE RESET leaves it. -/
def restedScale (c : Scale) : Scale :=
  { c with produce := { c.produce with tare := none, net := c.produce.gross }, bagging := { c.bagging with baselineWanted := true } }

theorem scaleLaneReset_same : SameUpToReport (s.setScale (restedScale s.scale)) s.scaleLaneReset := clearTareNow_same _

/-- A WEIGHT notice leaves the card decoder, the authority timer, the sense unit, the part state and the reply list. -/
theorem kept_of_sameUpToReport {s t : State} (h : SameUpToReport s t) :
    t.card = s.card ∧ t.authority = s.authority ∧ t.sense = s.sense ∧ t.link.part = s.link.part ∧
    t.link.replies = s.link.replies := by
  obtain rfl | rfl := h
  · exact ⟨rfl, rfl, rfl, rfl, rfl⟩
  · exact ⟨rfl, rfl, rfl, Link.place_part _ _, Link.place_replies _ _⟩

@[simp] theorem cardLaneReset_held (c : Card) : c.laneReset.held = none := by
  unfold Card.laneReset
  dsimp only
  split
  · rfl
  · rfl
  · split <;> rfl
  · rfl

@[simp] theorem cardLaneReset_prefixes (c : Card) : c.laneReset.prefixes = c.prefixes := by
  unfold Card.laneReset
  dsimp only
  split
  · rfl
  · rfl
  · split <;> rfl
  · rfl

end blocks

/-- R187: the state once the sale, the scale, the card decoder and the authority timer have done their part of LANE RESET. -/
def blocksAtRest (s : State) : State :=
  let weighed := s.discardSale.scaleLaneReset
  (weighed.setCard weighed.card.laneReset).authorityLaneReset

/-- R187: what those blocks' part of LANE RESET makes of the state `s`. -/
structure BlocksReset (s t : State) : Prop where
  sale : t.sale = .idle
  flight : t.capture.flight = none
  interlock : t.capture.interlock = s.capture.interlock
  entries : t.bagging.entries = []
  baseline : t.bagging.baseline = s.bagging.baseline
  baselineWanted : t.scale.bagging.baselineWanted = true
  tare : t.scale.produce.tare = none
  zeroRef : t.scale.produce.zeroRef = s.scale.produce.zeroRef
  held : t.card.held = none
  prefixes : t.card.prefixes = s.card.prefixes
  authority : t.authority = { window := none, key := if s.authority.key = .turned then .spent else s.authority.key }
  sense : t.sense = s.sense
  part : t.link.part = s.link.part
  replies : t.link.replies = s.link.replies
  cluster : t.cluster = s.cluster
  engine : t.engine = s.engine
  journal : t.journal = { s.journal with queue := s.journal.queue.filter (fun a => !a.isSale) }

theorem authorityLaneReset_authority (s : State) :
    s.authorityLaneReset.authority =
      { window := none, key := if s.authority.key = .turned then .spent else s.authority.key } := by
  unfold State.authorityLaneReset
  rw [putAuthority_authority]
  cases s.authority.key <;> rfl

/-- R187: each block's part, one after the other. -/
theorem blocksAtRest_reset (s : State) : BlocksReset s (blocksAtRest s) := by
  have same := scaleLaneReset_same s.discardSale
  obtain ⟨hcard, hauthority, hsense, hpart, hreplies⟩ := kept_of_sameUpToReport same
  unfold blocksAtRest
  dsimp only
  generalize s.discardSale.scaleLaneReset = t at *
  unfold State.discardSale at *
  constructor
  case authority => simp [authorityLaneReset_authority, State.clearExpectations, hauthority]
  all_goals
    simp [State.authorityLaneReset, State.clearExpectations, restedScale, hcard, hsense, hpart, hreplies,
      same.sale, same.capture, same.bagging, same.produce, same.baggingChannel, same.cluster, same.engine, same.journal]

/-! ## LANE RESET (R187) -/

/-- What a state keeps of another that differs from it in what `besideSupply` erases. -/
structure KeptBesideSupply (s t : State) : Prop where
  part : t.link.part = s.link.part
  replies : t.link.replies = s.link.replies
  sale : t.sale = s.sale
  budget : t.cluster.budget = s.cluster.budget
  produce : t.scale.produce = s.scale.produce
  baggingChannel : t.scale.bagging = s.scale.bagging
  capture : t.capture = s.capture
  bagging : t.bagging = s.bagging
  card : t.card = s.card
  authority : t.authority = s.authority
  sense : t.sense = s.sense
  array : t.journal.array = s.journal.array
  taken : t.journal.taken = s.journal.taken
  queue : t.journal.queue = s.journal.queue

theorem kept_of_besideSupply {s t : State} (h : besideSupply t = besideSupply s) : KeptBesideSupply s t where
  part := (congrArg (fun u : State => u.link.part) h :)
  replies := (congrArg (fun u : State => u.link.replies) h :)
  sale := (congrArg State.sale h :)
  budget := (congrArg (fun u : State => u.cluster.budget) h :)
  produce := (congrArg (fun u : State => u.scale.produce) h :)
  baggingChannel := (congrArg (fun u : State => u.scale.bagging) h :)
  capture := (congrArg State.capture h :)
  bagging := (congrArg State.bagging h :)
  card := (congrArg State.card h :)
  authority := (congrArg State.authority h :)
  sense := (congrArg State.sense h :)
  array := (congrArg (fun u : State => u.journal.array) h :)
  taken := (congrArg (fun u : State => u.journal.taken) h :)
  queue := (congrArg (fun u : State => u.journal.queue) h :)

section drawer
variable (s : State)

theorem besideSupply_drawerLaneReset : besideSupply s.drawerLaneReset = besideSupply s := by
  simp [State.drawerLaneReset]

/-- R134: the drawer's record at rest, its state taken from the switch. -/
theorem drawerLaneReset_drawer : ∃ d : Drawer, s.drawerLaneReset.drawer = d.laneReset s.sense.watchDrawer.matching := by
  unfold State.drawerLaneReset
  dsimp only
  rw [putDrawer_drawer, (TillFrame.releaseHolding _ _).sense]
  exact ⟨_, rfl⟩

theorem drawerLaneReset_busy (h : s.engine.state ≠ .idle) : s.drawerLaneReset.engine.state ≠ .idle := by
  unfold State.drawerLaneReset
  dsimp only
  rw [putDrawer_engine]
  exact releaseHolding_busy _ _ h

end drawer

section abandonJob
variable (s : State)

theorem besideSupply_abandonJob : besideSupply s.abandonJob = besideSupply s := by
  unfold State.abandonJob State.engineIdle
  split
  · rfl
  · simp

theorem abandonJob_engine_state : s.abandonJob.engine.state = .idle := by
  unfold State.abandonJob State.engineIdle
  split
  · next h => exact h
  · simp [Engine.idleJob]

theorem abandonJob_queue (h : s.engine.state ≠ .idle) : s.abandonJob.composer.queue = [] := by
  unfold State.abandonJob State.engineIdle
  rw [if_neg h]
  simp [Composer.ended]

theorem abandonJob_drawer (h : s.drawer.state ≠ .claiming) : s.abandonJob.drawer = s.drawer := by
  unfold State.abandonJob State.engineIdle
  split
  · rfl
  · rw [putEngine_drawer, setComposer_drawer]
    exact (TillFrame.releaseHolding _ _).drawer h

end abandonJob

theorem drawerAtRest_not_claiming (d : Drawer) (shut : Bool) : (d.laneReset shut).state ≠ .claiming := by
  cases shut <;> simp [Drawer.laneReset]

/-- R134, R154: the drawer and the print engine at rest, one after the other. -/
theorem drawerAndJob_effect (s : State) :
    KeptBesideSupply s s.drawerLaneReset.abandonJob ∧
    (∃ d : Drawer, s.drawerLaneReset.abandonJob.drawer = d.laneReset s.sense.watchDrawer.matching) ∧
    s.drawerLaneReset.abandonJob.engine.state = .idle ∧
    (s.engine.state ≠ .idle → s.drawerLaneReset.abandonJob.composer.queue = []) := by
  obtain ⟨d, hdrawer⟩ := drawerLaneReset_drawer s
  have hside := besideSupply_drawerLaneReset s
  have hbusy := drawerLaneReset_busy s
  generalize s.drawerLaneReset = t at *
  have hrests : t.abandonJob.drawer = t.drawer := abandonJob_drawer t (by rw [hdrawer]; exact drawerAtRest_not_claiming _ _)
  exact ⟨kept_of_besideSupply ((besideSupply_abandonJob t).trans hside), ⟨d, hrests.trans hdrawer⟩, abandonJob_engine_state t,
    fun h => abandonJob_queue t (hbusy h)⟩

theorem laneResetNow_eq (s : State) : s.laneResetNow = ((blocksAtRest s).drawerLaneReset.abandonJob).setTone none := by
  unfold State.laneResetNow blocksAtRest
  rfl

/-- Settles O13: the blocks at rest, beside what the release of the drawer's and the print engine's units may start. -/
theorem laneResetReturnsToRest : Obligations.LaneResetReturnsToRest := by
  unfold Obligations.LaneResetReturnsToRest
  intro s tag htakes
  refine ⟨_, answer_arrive_running (c := .laneReset) htakes rfl rfl, ?_⟩
  have rest := blocksAtRest_reset s
  obtain ⟨kept, ⟨d, hdrawer⟩, hengine, hqueue⟩ := drawerAndJob_effect (blocksAtRest s)
  rw [finish_reply_replies, finish_link, Link.pump_part, reply_link, laneResetNow_eq]
  generalize blocksAtRest s = b at *
  generalize b.drawerLaneReset.abandonJob = t at *
  rw [rest.engine] at hqueue
  simpa [kept.sale, kept.capture, kept.bagging, kept.produce, kept.baggingChannel, kept.card, kept.authority, kept.sense, kept.part,
    kept.replies, kept.budget, kept.array, kept.taken, kept.queue, rest.sale, rest.flight, rest.interlock, rest.entries, rest.baseline,
    rest.baselineWanted, rest.tare, rest.zeroRef, rest.held, rest.prefixes, rest.authority, rest.sense, rest.part, rest.replies,
    rest.cluster, rest.journal, hdrawer, Drawer.laneReset, Drawer.settle, hengine, htakes.1, HostCommand.kind] using hqueue

end Sys2Proof.Machine.LaneReset
end

section
/-! SUPPORT. A step and the queue of commands, which are the model's own (log entry 1): what a step is with a command at the queue's front and with
none, the queue as every operation of the model leaves it, operation by operation in the order of the model, and the statements O1 and O2 settled
from them. -/

namespace Sys2Proof.Machine.CommandQueue

/-! ## A step, by the queue it finds -/

theorem step_of_front {s : State} {c : Instr} {rest : List Instr} (h : s.pending = c :: rest) :
    step s = exec c (s.setPending rest) := by
  unfold step
  rw [h]

theorem step_of_empty {s : State} (h : s.pending = []) : step s = .next s.tick := by
  unfold step
  rw [h]

/-- Settles O1: the two cases of the queue that a step finds. -/
theorem stepTakesFrontCommand : Obligations.StepTakesFrontCommand := by
  unfold Obligations.StepTakesFrontCommand
  exact ⟨fun _ _ _ hfront => step_of_front hfront, fun _ hempty => step_of_empty hempty⟩

/-! ## Branches and folds -/

@[simp] theorem ite_pending {c : Prop} [Decidable c] (s t : State) :
    (if c then s else t).pending = if c then s.pending else t.pending := apply_ite (·.pending) c s t

@[simp] theorem ite_fst_pending {c : Prop} [Decidable c] (x y : Taken) :
    (if c then x else y).1.pending = if c then x.1.pending else y.1.pending := apply_ite (·.1.pending) c x y

@[simp] theorem foldl_pending {α : Type} {f : State → α → State} (hf : ∀ u a, (f u a).pending = u.pending) (l : List α)
    (s : State) : (l.foldl f s).pending = s.pending := by
  induction l generalizing s with
  | nil => rfl
  | cons a as ih => exact (ih _).trans (hf s a)

/-! ## The operations of the part: every branch of one is a chain of updates and of operations whose lemmas stand above it -/

section state
variable (s : State)

/-! ### Notices of the cluster unit and of the link (R36, R44, R181) -/

@[simp] theorem linkError_pending (e : LinkErrors) (chars : Nat) : (s.linkError e chars).pending = s.pending := rfl
@[simp] theorem stationNotice_pending (before : StationState) : (s.stationNotice before).pending = s.pending := rfl

@[simp] theorem setMode_pending (m : LineMode) (cause : LineModeCause) : (s.setMode m cause).pending = s.pending := by
  simp [State.setMode]

/-! ### The composer (R155 to R164) -/

@[simp] theorem footerReached_pending : s.footerReached.pending = s.pending := by
  unfold State.footerReached
  split <;> simp

@[simp] theorem composerVerdict_pending : s.composerVerdict.pending = s.pending := by simp [State.composerVerdict]

@[simp] theorem seekCopy_pending : s.seekCopy.pending = s.pending := by
  unfold State.seekCopy
  split <;> simp

@[simp] theorem putLine_pending (t : Text) (next : Cursor) : (s.putLine t next).pending = s.pending := rfl
@[simp] theorem putUnreadable_pending : s.putUnreadable.pending = s.pending := rfl

@[simp] theorem composeLine_pending : s.composeLine.pending = s.pending := by
  unfold State.composeLine
  repeat' split
  all_goals simp

@[simp] theorem copyRead_pending (a n : Nat) : (s.copyRead a n).pending = s.pending := by
  unfold State.copyRead
  split <;> simp

/-! ### The print engine (R138 to R148) -/

@[simp] theorem engineTo_pending (st : EngineState) : (s.engineTo st).pending = s.pending := by simp [State.engineTo]

@[simp] theorem stageRow_pending : s.stageRow.pending = s.pending := by
  unfold State.stageRow
  repeat' split
  all_goals simp

@[simp] theorem transfer_pending (r : StagedRow) : (s.transfer r).pending = s.pending := by simp [State.transfer]

@[simp] theorem startStaged_pending : s.startStaged.pending = s.pending := by
  unfold State.startStaged
  split <;> simp

@[simp] theorem startRow_pending : s.startRow.pending = s.pending := by
  unfold State.startRow
  dsimp only
  repeat' split
  all_goals simp

@[simp] theorem pauseMedia_pending : s.pauseMedia.pending = s.pending := by simp [State.pauseMedia]
@[simp] theorem rowStart_pending : s.rowStart.pending = s.pending := by simp [State.rowStart]
@[simp] theorem tellPrinter_pending : s.tellPrinter.pending = s.pending := by simp [State.tellPrinter]
@[simp] theorem startCut_pending : s.startCut.pending = s.pending := by simp [State.startCut]
@[simp] theorem rowBoundary_pending (feed : Bool) : (s.rowBoundary feed).pending = s.pending := by simp [State.rowBoundary]

@[simp] theorem lineQueued_pending : s.lineQueued.pending = s.pending := by
  unfold State.lineQueued
  split <;> simp

@[simp] theorem temperatureResult_pending (t : Int) : (s.temperatureResult t).pending = s.pending := by
  unfold State.temperatureResult
  dsimp only
  split <;> simp

@[simp] theorem holdingFell_pending : s.holdingFell.pending = s.pending := by
  unfold State.holdingFell
  repeat' split
  all_goals simp

@[simp] theorem takeJob_pending (k : JobKind) : (s.takeJob k).pending = s.pending := by simp [State.takeJob]
@[simp] theorem requestReceipt_pending (k : JobKind) : (s.requestReceipt k).pending = s.pending := by simp [State.requestReceipt]

/-! ### The sale and the level (R19 to R21, R171, R176) -/

@[simp] theorem testCompletion_pending : s.testCompletion.pending = s.pending := by simp [State.testCompletion]

@[simp] theorem saleVerdict_pending (committed : Option Seq) : (s.saleVerdict committed).pending = s.pending := by
  simp [State.saleVerdict]

@[simp] theorem takenVerdict_pending (receipt : Option Nat) (committed : Option Seq) :
    (s.takenVerdict receipt committed).pending = s.pending := by
  simp [State.takenVerdict]

@[simp] theorem printOutcome_pending (p : PrintStatus) : (s.printOutcome p).pending = s.pending := by simp [State.printOutcome]
@[simp] theorem judgeJournal_pending : s.judgeJournal.pending = s.pending := by simp [State.judgeJournal]
@[simp] theorem judgeBlocked_pending : s.judgeBlocked.pending = s.pending := by simp [State.judgeBlocked]
@[simp] theorem enterFull_pending : s.enterFull.pending = s.pending := by simp [State.enterFull]
@[simp] theorem handOver_pending (a : Append) : (s.handOver a).pending = s.pending := by simp [State.handOver]

/-! ### The journal controller between and after the operations of the array (R172 to R179) -/

@[simp] theorem takeAppend_pending : s.takeAppend.pending = s.pending := by
  unfold State.takeAppend
  split <;> simp

@[simp] theorem commitAppend_pending (t : TakenAppend) : (s.commitAppend t).pending = s.pending := by
  unfold State.commitAppend
  repeat' split
  all_goals simp

@[simp] theorem enterFault_pending (op : FailedOp) (block : Nat) (programming : Bool) :
    (s.enterFault op block programming).pending = s.pending := by
  cases h : s.journal.taken <;> simp [State.enterFault, h]

@[simp] theorem startEraseAhead_pending : s.startEraseAhead.pending = s.pending := by
  unfold State.startEraseAhead
  split <;> simp

@[simp] theorem betweenOperations_pending : s.betweenOperations.pending = s.pending := by simp [State.betweenOperations]

@[simp] theorem appendProgrammed_pending : s.appendProgrammed.pending = s.pending := by
  unfold State.appendProgrammed
  repeat' split
  all_goals simp

@[simp] theorem identityProgrammed_pending : s.identityProgrammed.pending = s.pending := by
  unfold State.identityProgrammed
  repeat' split
  all_goals simp

@[simp] theorem answerReader_pending (tag : Byte) (b : ReplyBody) : (s.answerReader tag b).pending = s.pending := rfl

@[simp] theorem readerAsks_pending (r : JournalReader) (a n : Nat) : (s.readerAsks r a n).pending = s.pending := by
  simp [State.readerAsks]

@[simp] theorem readerHeader_pending (r : JournalReader) : (s.readerHeader r).pending = s.pending := by
  unfold State.readerHeader
  split <;> simp

@[simp] theorem readerRead_pending (a n : Nat) : (s.readerRead a n).pending = s.pending := by
  unfold State.readerRead
  repeat' split
  all_goals simp

@[simp] theorem readEnds_pending : s.readEnds.pending = s.pending := by
  unfold State.readEnds
  repeat' split
  all_goals simp

@[simp] theorem scanEnds_pending : s.scanEnds.pending = s.pending := rfl

/-! ### The ends of a program and of an erase (R166, R174) -/

@[simp] theorem programEnds_pending (verified : Bool) : (s.programEnds verified).pending = s.pending := by
  unfold State.programEnds
  split
  · next owner _ _ _ => cases owner <;> simp
  · rfl

@[simp] theorem eraseEnds_pending (verified : Bool) : (s.eraseEnds verified).pending = s.pending := by
  unfold State.eraseEnds
  split
  · next e _ => cases e.owner <;> simp
  · rfl

/-! ### Supply and the station (R45, R51, R52, R57 to R60, R126) -/

@[simp] theorem enterKicking_pending : s.enterKicking.pending = s.pending := by simp [State.enterKicking]
@[simp] theorem tellDrawer_pending : s.tellDrawer.pending = s.pending := by simp [State.tellDrawer]
@[simp] theorem tellGrants_pending : s.tellGrants.pending = s.pending := by simp [State.tellGrants]
@[simp] theorem enterClaiming_pending : s.enterClaiming.pending = s.pending := by simp [State.enterClaiming]
@[simp] theorem requestKick_pending : s.requestKick.pending = s.pending := by simp [State.requestKick]
@[simp] theorem enterListen_pending : s.enterListen.pending = s.pending := by simp [State.enterListen]
@[simp] theorem leaveLoneWhenFree_pending : s.leaveLoneWhenFree.pending = s.pending := by simp [State.leaveLoneWhenFree]
@[simp] theorem topupAfterRelease_pending : s.topupAfterRelease.pending = s.pending := by simp [State.topupAfterRelease]
@[simp] theorem loneRelease_pending (k : Consumer) : (s.loneRelease k).pending = s.pending := by simp [State.loneRelease]

@[simp] theorem releaseHolding_pending (k : Consumer) : (s.releaseHolding k).pending = s.pending := by
  unfold State.releaseHolding
  dsimp only
  split <;> simp

@[simp] theorem applyLone_pending (b : OutBody) : (s.applyLone b).pending = s.pending := by
  cases b <;> simp [State.applyLone]

@[simp] theorem askForClipped_pending (clippedToZero : Bool) : (s.askForClipped clippedToZero).pending = s.pending := by
  simp [State.askForClipped]

@[simp] theorem callNoticeIfMoved_pending (before : Cluster) : (s.callNoticeIfMoved before).pending = s.pending := by
  simp [State.callNoticeIfMoved]

@[simp] theorem enterLone_pending (cause : LoneCause) : (s.enterLone cause).pending = s.pending := by simp [State.enterLone]

/-! ### The drawer controller (R124 to R134) -/

@[simp] theorem countOpening_pending : s.countOpening.pending = s.pending := by simp [State.countOpening]
@[simp] theorem enterOpen_pending : s.enterOpen.pending = s.pending := by simp [State.enterOpen]
@[simp] theorem enterForced_pending : s.enterForced.pending = s.pending := by simp [State.enterForced]
@[simp] theorem enterJammed_pending (cause : JamCause) : (s.enterJammed cause).pending = s.pending := by simp [State.enterJammed]
@[simp] theorem enterClosed_pending (handed : Bool) : (s.enterClosed handed).pending = s.pending := by simp [State.enterClosed]

@[simp] theorem drawerDeparts_pending : s.drawerDeparts.pending = s.pending := by
  unfold State.drawerDeparts
  split <;> simp

@[simp] theorem drawerReturns_pending : s.drawerReturns.pending = s.pending := by
  unfold State.drawerReturns
  split <;> simp

@[simp] theorem drawerFollows_pending (matching : Bool) : (s.drawerFollows matching).pending = s.pending := by
  unfold State.drawerFollows
  split <;> simp

@[simp] theorem drawerWatch_pending (matching : Bool) : (s.drawerWatch matching).pending = s.pending := by
  unfold State.drawerWatch
  split <;> simp

@[simp] theorem claimExpires_pending : s.claimExpires.pending = s.pending := by
  unfold State.claimExpires
  split <;> simp

@[simp] theorem afterPulse_pending : s.afterPulse.pending = s.pending := by simp [State.afterPulse]

@[simp] theorem pulseEnds_pending : s.pulseEnds.pending = s.pending := by
  unfold State.pulseEnds
  split <;> simp

@[simp] theorem confirmExpires_pending : s.confirmExpires.pending = s.pending := by
  unfold State.confirmExpires
  split <;> simp

@[simp] theorem gapExpires_pending : s.gapExpires.pending = s.pending := by
  unfold State.gapExpires
  split <;> simp

@[simp] theorem openAlarm_pending : s.openAlarm.pending = s.pending := by simp [State.openAlarm]
@[simp] theorem openLong_pending : s.openLong.pending = s.pending := by simp [State.openLong]
@[simp] theorem drawerLaneReset_pending : s.drawerLaneReset.pending = s.pending := by simp [State.drawerLaneReset]

/-! ### The bagging verifier and the capture unit (R85 to R103) -/

@[simp] theorem baggingNotice_pending (r : BaggingResult) : (s.baggingNotice r).pending = s.pending := rfl
@[simp] theorem setLineBag_pending (i : Nat) (b : BagStatus) : (s.setLineBag i b).pending = s.pending := by simp [State.setLineBag]

@[simp] theorem postPlace_pending (line : Nat) (expected tolerance : Nat) : (s.postPlace line expected tolerance).pending = s.pending :=
  rfl

@[simp] theorem postRemove_pending (line : Nat) : (s.postRemove line).pending = s.pending := by
  unfold State.postRemove
  split <;> simp

@[simp] theorem withdrawTimeout_pending : s.withdrawTimeout.pending = s.pending := by simp [State.withdrawTimeout]

@[simp] theorem baggingVoid_pending (i : Nat) (b : BagStatus) : (s.baggingVoid i b).pending = s.pending := by
  unfold State.baggingVoid
  split <;> simp

@[simp] theorem clearExpectations_pending : s.clearExpectations.pending = s.pending := rfl
@[simp] theorem settleAtBaseline_pending : s.settleAtBaseline.pending = s.pending := by simp [State.settleAtBaseline]
@[simp] theorem settleFound_pending (n : Nat) (w : Int) : (s.settleFound n w).pending = s.pending := by simp [State.settleFound]

@[simp] theorem settleNotFound_pending (delta : Int) : (s.settleNotFound delta).pending = s.pending := by
  simp [State.settleNotFound]

@[simp] theorem settleEvent_pending (w : Int) : (s.settleEvent w).pending = s.pending := by
  unfold State.settleEvent
  dsimp only
  repeat' split
  all_goals simp

@[simp] theorem baselineEvent_pending (w : Int) : (s.baselineEvent w).pending = s.pending := rfl

@[simp] theorem deadlinePasses_pending (line : Nat) : (s.deadlinePasses line).pending = s.pending := by
  simp [State.deadlinePasses]

@[simp] theorem baggingCleared_pending (w : Int) : (s.baggingCleared w).pending = s.pending := by simp [State.baggingCleared]

@[simp] theorem captured_pending (c : CaptureRec) (grams : Nat) : (s.captured c grams).pending = s.pending := by
  simp [State.captured]

@[simp] theorem captureWeight_pending (st : ChannelState) (stable : Bool) (gross net : Int) :
    (s.captureWeight st stable gross net).pending = s.pending := by
  unfold State.captureWeight
  repeat' split
  all_goals simp

/-! ### The scale front end (R68 to R84) -/

@[simp] theorem weightNotice_pending : s.weightNotice.pending = s.pending := rfl
@[simp] theorem produceFormed_pending : s.produceFormed.pending = s.pending := by simp [State.produceFormed]

@[simp] theorem baggingFormed_pending (before : Channel) : (s.baggingFormed before).pending = s.pending := by
  simp [State.baggingFormed]

@[simp] theorem produceSample_pending (twice : Int) : (s.produceSample twice).pending = s.pending := by
  unfold State.produceSample
  dsimp only
  split <;> simp

@[simp] theorem baggingSample_pending (twice : Int) : (s.baggingSample twice).pending = s.pending := by
  unfold State.baggingSample
  dsimp only
  split <;> simp

@[simp] theorem produceReading_pending (r : Int) : (s.produceReading r).pending = s.pending := by
  unfold State.produceReading
  repeat' split
  all_goals simp

@[simp] theorem baggingReading_pending (r : Int) : (s.baggingReading r).pending = s.pending := by
  unfold State.baggingReading
  repeat' split
  all_goals simp

@[simp] theorem conversionEnds_pending (result : Int) : (s.conversionEnds result).pending = s.pending := by
  unfold State.conversionEnds
  dsimp only
  split
  · rfl
  · split <;> simp

@[simp] theorem weightNoticeIfChanged_pending (before : Scale) : (s.weightNoticeIfChanged before).pending = s.pending := by
  simp [State.weightNoticeIfChanged]

@[simp] theorem restartTakesEffect_pending : s.restartTakesEffect.pending = s.pending := by simp [State.restartTakesEffect]

@[simp] theorem periodBoundary_pending : s.periodBoundary.pending = s.pending := by
  unfold State.periodBoundary
  split <;> simp

@[simp] theorem forcedCutoff_pending : s.forcedCutoff.pending = s.pending := by simp [State.forcedCutoff]

@[simp] theorem bridgeChanges_pending (l : BridgeLevel) : (s.bridgeChanges l).pending = s.pending := by
  unfold State.bridgeChanges
  split <;> simp

@[simp] theorem startScale_pending (v : ConfigValues) : (s.startScale v).pending = s.pending := by
  unfold State.startScale
  dsimp only
  split <;> simp

@[simp] theorem weightNoticeIfNet_pending (before : Option Int) : (s.weightNoticeIfNet before).pending = s.pending := by
  simp [State.weightNoticeIfNet]

@[simp] theorem clearTareNow_pending : s.clearTareNow.pending = s.pending := by simp [State.clearTareNow]

/-! ### The ends of print jobs and the media (R140 to R154) -/

@[simp] theorem reportOutcome_pending (o : JobOutcome) (p : PrintStatus) : (s.reportOutcome o p).pending = s.pending := by
  unfold State.reportOutcome
  repeat' split
  all_goals simp

@[simp] theorem engineIdle_pending (o : JobOutcome) : (s.engineIdle o).pending = s.pending := by simp [State.engineIdle]

@[simp] theorem handWaitingJob_pending : s.handWaitingJob.pending = s.pending := by
  unfold State.handWaitingJob
  split <;> simp

@[simp] theorem endJob_pending (o : JobOutcome) (p : PrintStatus) : (s.endJob o p).pending = s.pending := by simp [State.endJob]
@[simp] theorem abandonJob_pending : s.abandonJob.pending = s.pending := by simp [State.abandonJob]

@[simp] theorem passEnds_pending : s.passEnds.pending = s.pending := by
  unfold State.passEnds
  repeat' split
  all_goals simp

@[simp] theorem stepEnds_pending : s.stepEnds.pending = s.pending := by
  unfold State.stepEnds
  dsimp only
  split
  · rfl
  · split <;> simp

@[simp] theorem mediaPauses_pending : s.mediaPauses.pending = s.pending := by
  unfold State.mediaPauses
  split <;> simp

@[simp] theorem raisePaperOut_pending : s.raisePaperOut.pending = s.pending := by simp [State.raisePaperOut]
@[simp] theorem mediaWatch_pending (matching : Bool) : (s.mediaWatch matching).pending = s.pending := by simp [State.mediaWatch]

@[simp] theorem mediaSettles_pending : s.mediaSettles.pending = s.pending := by
  unfold State.mediaSettles
  split <;> simp

@[simp] theorem nearEndWatch_pending (matching : Bool) : (s.nearEndWatch matching).pending = s.pending := by simp [State.nearEndWatch]
@[simp] theorem cutterReturns_pending : s.cutterReturns.pending = s.pending := by simp [State.cutterReturns]

@[simp] theorem cutterWatch_pending (matching : Bool) : (s.cutterWatch matching).pending = s.pending := by
  simp [State.cutterWatch]

@[simp] theorem cutExpires_pending : s.cutExpires.pending = s.pending := by
  unfold State.cutExpires
  split <;> simp

@[simp] theorem startEngine_pending (headMax : Nat) : (s.startEngine headMax).pending = s.pending := by
  unfold State.startEngine
  dsimp only
  repeat' split
  all_goals simp

/-! ### The authority timer, the card decoder and the sense unit (R104 to R123) -/

@[simp] theorem emptyWanted_pending : s.emptyWanted.pending = s.pending := by simp [State.emptyWanted]

@[simp] theorem clearSucceeds_pending (source : AuthSource) (digits : Text) (clear : Option Int) :
    (s.clearSucceeds source digits clear).pending = s.pending := by
  unfold State.clearSucceeds
  split <;> simp

@[simp] theorem clearAttempt_pending (source : AuthSource) (digits : Text) : (s.clearAttempt source digits).1.pending = s.pending := by
  unfold State.clearAttempt
  repeat' split
  all_goals simp

@[simp] theorem attendantClear_pending (source : AuthSource) (digits : Text) : (s.attendantClear source digits).pending = s.pending := by
  simp [State.attendantClear]

@[simp] theorem attendantCard_pending (digits : Text) : (s.attendantCard digits).pending = s.pending := by
  simp [State.attendantCard]

@[simp] theorem keyDeparts_pending : s.keyDeparts.pending = s.pending := by
  unfold State.keyDeparts
  split <;> simp

@[simp] theorem keyWatch_pending (matching : Bool) : (s.keyWatch matching).pending = s.pending := by simp [State.keyWatch]
@[simp] theorem windowExpires_pending : s.windowExpires.pending = s.pending := by simp [State.windowExpires]
@[simp] theorem authorityLaneReset_pending : s.authorityLaneReset.pending = s.pending := by simp [State.authorityLaneReset]
@[simp] theorem settleKey_pending : s.settleKey.pending = s.pending := by simp [State.settleKey]

@[simp] theorem handleRecord_pending (r : CardRecord) : (s.handleRecord r).pending = s.pending := by
  unfold State.handleRecord
  split <;> simp

@[simp] theorem decodingEnds_pending : s.decodingEnds.pending = s.pending := by
  unfold State.decodingEnds
  split <;> simp

@[simp] theorem spareNotice_pending (i : SenseInput) : (s.spareNotice i).pending = s.pending := rfl

@[simp] theorem deliver_pending (before after : Watch) {owner : State → Bool → State}
    (howner : ∀ matching, (owner s matching).pending = s.pending) :
    (s.deliver before after owner).pending = s.pending := by
  simp [State.deliver, howner]

@[simp] theorem senseEvents_pending (i : SenseInput) (before : Sense) : (s.senseEvents i before).pending = s.pending := by
  cases i <;> simp [State.senseEvents]

@[simp] theorem debounced_pending (i : SenseInput) : (s.debounced i).pending = s.pending := by
  unfold State.debounced
  dsimp only
  split <;> simp

/-! ### Frames on the cluster bus and the timers of the station (R25 to R63) -/

@[simp] theorem countVerdicts_pending (v : Verdicts) : (s.countVerdicts v).pending = s.pending := by
  unfold State.countVerdicts
  dsimp only
  split <;> simp

@[simp] theorem noticeAll_pending (ns : List Notice) : (s.noticeAll ns).pending = s.pending :=
  foldl_pending notice_pending ns s

@[simp] theorem takeFrame_pending (f : Frame) (ours : Bool) : (s.takeFrame f ours).pending = s.pending := by
  simp [State.takeFrame]

@[simp] theorem ownVetoed_pending (f : Frame) : (s.ownVetoed f).pending = s.pending := by
  unfold State.ownVetoed
  repeat' split
  all_goals simp

@[simp] theorem ownFailed_pending (x : FailedSend) : (s.ownFailed x).pending = s.pending := by
  unfold State.ownFailed
  dsimp only
  repeat' split
  all_goals simp

@[simp] theorem lostArbitration_pending : s.lostArbitration.pending = s.pending := by simp [State.lostArbitration]
@[simp] theorem ownAborted_pending (v : Verdicts) : (s.ownAborted v).pending = s.pending := by simp [State.ownAborted]

@[simp] theorem ownOutcome_pending (f : Frame) (v : Verdicts) (others : ResponseSlots) : (s.ownOutcome f v others).pending = s.pending := by
  unfold State.ownOutcome
  split <;> simp

@[simp] theorem ownFrameEnds_pending (f : Frame) (r : Reading × Reading × Reading) (others : ResponseSlots) :
    (s.ownFrameEnds f r others).pending = s.pending := by
  unfold State.ownFrameEnds
  dsimp only
  split <;> simp

@[simp] theorem peerOutcome_pending (copy : Option Frame) (others : ResponseSlots) : (s.peerOutcome copy others).pending = s.pending := by
  unfold State.peerOutcome
  split <;> simp

@[simp] theorem peerFrameEnds_pending (f : Frame) (r : Reading × Reading × Reading) (others : ResponseSlots) :
    (s.peerFrameEnds f r others).pending = s.pending := by
  simp [State.peerFrameEnds]

@[simp] theorem frameEnds_pending (f : Frame) (h : Heard) (others : ResponseSlots) : (s.frameEnds f h others).pending = s.pending := by
  unfold State.frameEnds
  repeat' split
  all_goals simp

@[simp] theorem frameAborts_pending (ours : Bool) (v : Verdicts) : (s.frameAborts ours v).pending = s.pending := by
  simp [State.frameAborts]

@[simp] theorem enterJoining_pending : s.enterJoining.pending = s.pending := rfl

@[simp] theorem listenExpires_pending : s.listenExpires.pending = s.pending := by
  unfold State.listenExpires
  split <;> simp

@[simp] theorem retryExpires_pending : s.retryExpires.pending = s.pending := by
  unfold State.retryExpires
  split <;> simp

@[simp] theorem startCluster_pending (budget : Nat) : (s.startCluster budget).pending = s.pending := by simp [State.startCluster]

/-! ### The commands (R10 to R22, R178, R185, R187) -/

@[simp] theorem refuse_pending (r : RefusalReason) : (s.refuse r).1.pending = s.pending := rfl
@[simp] theorem done_pending (f : ReplyFields) : (s.done f).1.pending = s.pending := rfl
@[simp] theorem accepted_pending (f : ReplyFields) : (s.accepted f).1.pending = s.pending := rfl
@[simp] theorem kickForCash_pending : s.kickForCash.pending = s.pending := by simp [State.kickForCash]
@[simp] theorem settle_pending : s.settle.pending = s.pending := by simp [State.settle]

@[simp] theorem addTender_pending (t : Tender) : (s.addTender t).pending = s.pending := by
  unfold State.addTender
  dsimp only
  split <;> simp

@[simp] theorem voidSaleNow_pending : s.voidSaleNow.pending = s.pending := by simp [State.voidSaleNow]

@[simp] theorem openSale_pending (reference stamp : BitVec 32) : (s.openSale reference stamp).1.pending = s.pending := by
  unfold State.openSale
  repeat' split
  all_goals simp

@[simp] theorem appendItem_pending (f : LineFields) : (s.appendItem f).1.pending = s.pending := by
  unfold State.appendItem
  split <;> simp

@[simp] theorem addLine_pending (f : LineFields) : (s.addLine f).1.pending = s.pending := by simp [State.addLine]

@[simp] theorem voidLineNow_pending (i : Nat) (l : Line) : (s.voidLineNow i l).1.pending = s.pending := by
  simp [State.voidLineNow]

@[simp] theorem voidLine_pending (i : Nat) : (s.voidLine i).1.pending = s.pending := by
  unfold State.voidLine
  repeat' split
  all_goals simp

@[simp] theorem total_pending : (s.total).1.pending = s.pending := by simp [State.total]
@[simp] theorem tenderCash_pending (amount : Nat) : (s.tenderCash amount).1.pending = s.pending := by simp [State.tenderCash]

@[simp] theorem tenderCard_pending (amount : Nat) (approval : Text) : (s.tenderCard amount approval).1.pending = s.pending := by
  unfold State.tenderCard
  repeat' split
  all_goals simp

@[simp] theorem voidSale_pending : (s.voidSale).1.pending = s.pending := by simp [State.voidSale]

@[simp] theorem startCapture_pending (desc : Text) (price : Nat) (bag : Bool) : (s.startCapture desc price bag).1.pending = s.pending := by
  unfold State.startCapture
  dsimp only
  repeat' split
  all_goals simp

@[simp] theorem weighItem_pending (desc : Text) (price bag : Nat) : (s.weighItem desc price bag).1.pending = s.pending := by
  simp [State.weighItem]

@[simp] theorem cancelWeigh_pending : (s.cancelWeigh).1.pending = s.pending := by simp [State.cancelWeigh]
@[simp] theorem restartScale_pending : (s.restartScale).1.pending = s.pending := by simp [State.restartScale]

@[simp] theorem setZero_pending : (s.setZero).1.pending = s.pending := by
  unfold State.setZero
  dsimp only
  repeat' split
  all_goals simp

@[simp] theorem takeTare_pending (d : Nat) : (s.takeTare d).1.pending = s.pending := rfl

@[simp] theorem setTare_pending (preset : Option Nat) : (s.setTare preset).1.pending = s.pending := by
  unfold State.setTare
  repeat' split
  all_goals simp

@[simp] theorem clearTare_pending : (s.clearTare).1.pending = s.pending := by simp [State.clearTare]

@[simp] theorem discardCard_pending : (s.discardCard).1.pending = s.pending := by
  unfold State.discardCard
  split <;> simp

@[simp] theorem raiseAssist_pending : (s.raiseAssist).1.pending = s.pending := by simp [State.raiseAssist]
@[simp] theorem withdrawAssist_pending : (s.withdrawAssist).1.pending = s.pending := by simp [State.withdrawAssist]
@[simp] theorem noSale_pending : (s.noSale).1.pending = s.pending := by simp [State.noSale]

@[simp] theorem retryDrawer_pending : (s.retryDrawer).1.pending = s.pending := by
  unfold State.retryDrawer
  repeat' split
  all_goals simp

@[simp] theorem playTone_pending (tone : Nat) : (s.playTone tone).1.pending = s.pending := by
  unfold State.playTone
  split <;> simp

@[simp] theorem stopTone_pending : (s.stopTone).1.pending = s.pending := by simp [State.stopTone]

@[simp] theorem reprintLast_pending : (s.reprintLast).1.pending = s.pending := by
  unfold State.reprintLast
  repeat' split
  all_goals simp

@[simp] theorem writeIdentity_pending (store : Nat) (label : Text) : (s.writeIdentity store label).1.pending = s.pending := by
  unfold State.writeIdentity
  repeat' split
  all_goals simp

@[simp] theorem readJournal_pending (tag : Byte) (q : Seq) (offset : Nat) : (s.readJournal tag q offset).1.pending = s.pending := by
  unfold State.readJournal
  repeat' split
  all_goals simp

@[simp] theorem queueMark_pending (q : Seq) : (s.queueMark q).pending = s.pending := by simp [State.queueMark]
@[simp] theorem confirmExport_pending (q : Seq) : (s.confirmExport q).1.pending = s.pending := by simp [State.confirmExport]
@[simp] theorem configureNow_pending (v : ConfigValues) : (s.configureNow v).pending = s.pending := by simp [State.configureNow]

@[simp] theorem configure_pending (v : ConfigValues) : (s.configure v).1.pending = s.pending := by
  unfold State.configure
  split <;> simp

@[simp] theorem readStatus_pending : (s.readStatus).1.pending = s.pending := rfl
@[simp] theorem discardSale_pending : s.discardSale.pending = s.pending := by simp [State.discardSale]
@[simp] theorem scaleLaneReset_pending : s.scaleLaneReset.pending = s.pending := by simp [State.scaleLaneReset]
@[simp] theorem laneResetNow_pending : s.laneResetNow.pending = s.pending := by simp [State.laneResetNow]
@[simp] theorem laneReset_pending : (s.laneReset).1.pending = s.pending := by simp [State.laneReset]

/-! ### The lane link (R180 to R184) -/

@[simp] theorem setAssembler_pending (a : Assembler) : (s.setAssembler a).pending = s.pending := rfl

@[simp] theorem concludeCommand_pending (kind tag : Byte) (x : Taken) : (concludeCommand kind tag x).pending = x.1.pending := by
  unfold concludeCommand
  split <;> rfl

@[simp] theorem whenRunning_pending {f : State → Taken} (hf : (f s).1.pending = s.pending) :
    (s.whenRunning f).1.pending = s.pending := by
  simp [State.whenRunning, hf]

@[simp] theorem perform_pending (tag : Byte) (c : HostCommand) : (s.perform tag c).1.pending = s.pending := by
  cases c <;> simp [State.perform]

@[simp] theorem takeCommand_pending (tag : Byte) (c : HostCommand) : (s.takeCommand tag c).pending = s.pending := by
  simp [State.takeCommand]

@[simp] theorem takeBody_pending (body : List Byte) : (s.takeBody body).pending = s.pending := by
  unfold State.takeBody
  split <;> simp

@[simp] theorem arrive_pending (tag : Byte) (c : HostCommand) : (s.arrive tag c).pending = s.pending := by
  unfold State.arrive
  split <;> simp

@[simp] theorem acceptMessage_pending (body : List Byte) : (s.acceptMessage body).pending = s.pending := by
  simp [State.acceptMessage]

@[simp] theorem completeMessage_pending (c : LinkChar) : (s.completeMessage c).pending = s.pending := by
  simp [State.completeMessage]

@[simp] theorem lengthCharacter_pending (c : LinkChar) : (s.lengthCharacter c).pending = s.pending := by
  simp [State.lengthCharacter]

@[simp] theorem bodyCharacter_pending (c : LinkChar) : (s.bodyCharacter c).pending = s.pending := rfl
@[simp] theorem huntCharacter_pending (c : LinkChar) : (s.huntCharacter c).pending = s.pending := by simp [State.huntCharacter]

@[simp] theorem characterArrives_pending (c : LinkChar) : (s.characterArrives c).pending = s.pending := by
  unfold State.characterArrives
  repeat' split
  all_goals simp

@[simp] theorem messageCompletes_pending (c : LinkChar) : (s.messageCompletes c).pending = s.pending := by
  unfold State.messageCompletes
  split <;> simp

@[simp] theorem gapExpiresInMessage_pending : s.gapExpiresInMessage.pending = s.pending := by
  unfold State.gapExpiresInMessage
  dsimp only
  split <;> simp

@[simp] theorem handOverHeld_pending : s.handOverHeld.pending = s.pending := by
  unfold State.handOverHeld
  dsimp only
  repeat' split
  all_goals simp

/-! ### Short rules of single rows -/

@[simp] theorem captureExpires_pending : s.captureExpires.pending = s.pending := by simp [State.captureExpires]

@[simp] theorem hotPolls_pending : s.hotPolls.pending = s.pending := by
  unfold State.hotPolls
  split <;> simp

@[simp] theorem placesLine_pending : s.placesLine.pending = s.pending := by simp [State.placesLine]

@[simp] theorem trackMoves_pending (k : Track) (interval : Nat) : (s.trackMoves k interval).pending = s.pending := by
  unfold State.trackMoves
  split <;> simp

@[simp] theorem takesAppend_pending : s.takesAppend.pending = s.pending := by
  unfold State.takesAppend
  split <;> simp

@[simp] theorem scanFinishes_pending : s.scanFinishes.pending = s.pending := by
  unfold State.scanFinishes
  split <;> simp

@[simp] theorem windowRunsOut_pending : s.windowRunsOut.pending = s.pending := by
  unfold State.windowRunsOut
  split <;> simp

@[simp] theorem rawChanges_pending (i : SenseInput) (l : Level) : (s.rawChanges i l).pending = s.pending := rfl

end state

/-! ## The commands -/

/-- Every row ends in the transmitter's choice after operations that leave the queue; a hardware reset hands it on to the part it makes anew. -/
theorem exec_answers_pending (s : State) (i : Instr) : ∃ t, exec i s = answer t ∧ t.pending = s.pending := by
  cases i with
  | powerOnReset pins | pinReset pins => exact ⟨s.resetHard pins, rfl, rfl⟩
  | _ => exact ⟨_, rfl, by simp⟩

/-- Settles O2: each row answers, and the transmitter's choice that ends it leaves the queue too (R183). -/
theorem everyCommandKeepsTheQueue : Obligations.EveryCommandKeepsTheQueue := by
  unfold Obligations.EveryCommandKeepsTheQueue
  intro i s
  obtain ⟨t, hanswer, hqueue⟩ := exec_answers_pending s i
  exact ⟨t.finish, hanswer, (finish_pending t).trans hqueue⟩

end Sys2Proof.Machine.CommandQueue
end
